-- ==== Sys2Proof/Word.lean ====
section
/-! DEFINITION. The plain values of the part: bytes of the link and of the codes, and the saturating sum that the manual's counters use. -/

namespace Sys2Proof

/-- A byte of the link (Formats). -/
abbrev Byte := BitVec 8

/-- A counter that saturates "stays at its greatest value when it would go past it" (00_scope, Conventions). -/
def satAdd (cap a b : Nat) : Nat := min cap (a + b)

end Sys2Proof
end

