-- ==== Sys2Proof/Syntax.lean ====
section
/-! DEFINITION. The commands of the part: one constructor of `Instr` for each row of spec/opcode_table.json. The table gives the rows no operands and no bits; an operand here is what the row's rule says the part samples or is handed at that step (log entry 1). -/

namespace Sys2Proof

/-- The two pulse channels (R1). -/
inductive ChannelId where
  | line
  | ret
  deriving DecidableEq, Repr

/-- The three tamper inputs that TMN debounces (R133). -/
inductive Switch where
  | cover
  | terminal
  | magnet
  deriving DecidableEq, Repr

/-- The input pins (00_scope, Pins; RXD is fed byte by byte), each at the level last told, and whether VBAT can hold the battery domain (R171). `true` is high, asserted, held or present. -/
structure Pins where
  linePulse : Bool
  lineDir : Bool
  returnPulse : Bool
  cover : Bool
  terminal : Bool
  magnet : Bool
  accept : Bool
  loadSense : Bool
  reservoirReady : Bool
  mainsOk : Bool
  reset : Bool
  vbat : Bool
  deriving DecidableEq, Repr

/-- A byte as RXD gives it: its value, and whether its stop bit was high (R189). -/
structure RxByte where
  value : Byte
  stopOk : Bool
  deriving DecidableEq, Repr

/-- The commands (events and requests) of spec/opcode_table.json, in the table's order. -/
inductive Instr where
  /-- POWER_ON (R170), with the levels of the pins as the supply comes up. -/
  | powerOn (pins : Pins)
  /-- MAINS_OK_FALL (R172). -/
  | mainsOkFall
  /-- MAINS_FAIL_IN_STARTUP (R183); `written` says whether a write in flight had already reached the slot whole (R94, R162). -/
  | mainsFailInStartup (written : Bool)
  /-- MAINS_STABLE (R175). -/
  | mainsStable
  /-- VBAT_EXHAUSTED (R171): PSV's judgement of VBAT as it changes, exhausted, as the row's name has it and where nothing else is said, or able again to hold the battery domain (log entry 15). -/
  | vbatExhausted (exhausted : Bool := true)
  /-- HOLDUP_POWER_LOSS (R176); `written` as for MAINS_FAIL_IN_STARTUP. -/
  | holdupPowerLoss (written : Bool)
  /-- RESET_REQUEST (R184). -/
  | resetRequest
  /-- SAVE_COMPLETE (R158, R174): the save's write ends with its verify `good` or bad. -/
  | saveComplete (good : Bool)
  /-- LINE_PULSE_ACCEPTED (R4); `reverse` is LINE_DIR at the acceptance sample (R3). -/
  | linePulseAccepted (reverse : Bool)
  /-- RETURN_PULSE_ACCEPTED (R5). -/
  | returnPulseAccepted
  /-- NO_RECENT_PULSE (R2) of one channel. -/
  | noRecentPulse (channel : ChannelId)
  /-- FLASH_SLOT_END (R6). -/
  | flashSlotEnd
  /-- WINDOW_EXPIRY (R8). -/
  | windowExpiry
  /-- CLOCK_SECOND (R50). -/
  | clockSecond
  /-- QUARTER_TICK (R62). -/
  | quarterTick
  /-- ELAPSED_TICK_EXPIRY (R61). -/
  | elapsedTickExpiry
  /-- ROUTINE_REQUEST_AGED (R156). -/
  | routineRequestAged
  /-- CHECKPOINT_WRITE_COMPLETE (R158): a checkpoint write ends with its verify `good` or bad. -/
  | checkpointWriteComplete (good : Bool)
  /-- JOURNAL_WRITE_BAD (R158). -/
  | journalWriteBad
  /-- IDENT (R193): a complete frame of that type, with its payload. -/
  | ident (payload : List Byte)
  /-- PROVISION (R200). -/
  | provision (payload : List Byte)
  /-- SUBMIT (R74). -/
  | submit (payload : List Byte)
  /-- LOCKOUT_END (R89). -/
  | lockoutEnd
  /-- CREDIT (R37): the journal write of a code of that class completes good. -/
  | credit
  /-- RATE (R63). -/
  | rate
  /-- SWITCH (R64). -/
  | switchPoint
  /-- SPECIAL (R64). -/
  | special
  /-- FRIENDLY (R64). -/
  | friendly
  /-- STANDING (R64). -/
  | standing
  /-- ACTIVATE (R66). -/
  | activate
  /-- LIMIT (R43). -/
  | limit
  /-- DEBT (R44). -/
  | debt
  /-- TAMPER_CLEAR (R140). -/
  | tamperClear
  /-- POLICY (R141). -/
  | policy
  /-- CLOCK (R53). -/
  | clock
  /-- KEY_HI (R99). -/
  | keyHi
  /-- KEY_LO (R100). -/
  | keyLo
  /-- SUPPLY (R98). -/
  | supply
  /-- SNAPSHOT (R195). -/
  | snapshot (payload : List Byte)
  /-- READ_TARIFF (R196). -/
  | readTariff (payload : List Byte)
  /-- READ_TAMPER (R196). -/
  | readTamper (payload : List Byte)
  /-- READ_HISTORY (R197). -/
  | readHistory (payload : List Byte)
  /-- READ_REDEEMED (R197). -/
  | readRedeemed (payload : List Byte)
  /-- READ_ALERTS (R202). -/
  | readAlerts (payload : List Byte)
  /-- CLEAR_ALERTS (R203). -/
  | clearAlerts (payload : List Byte)
  /-- TRIM_CLOCK (R54). -/
  | trimClock (payload : List Byte)
  /-- UNKNOWN_REQUEST (R190): a complete frame whose type byte names no request. -/
  | unknownRequest (type : Byte) (payload : List Byte)
  /-- FRAME_DISCARD (R189): the bytes of a frame that is discarded. -/
  | frameDiscard (bytes : List RxByte)
  /-- FRAME_GAP_TIMEOUT (R189): the bytes taken before the gap (none where the assembler already holds them). -/
  | frameGapTimeout (bytes : List RxByte)
  /-- REPLY_SENT (R191). -/
  | replySent
  /-- WARNING_TIMEOUT (R108). -/
  | warningTimeout
  /-- RESERVOIR_READY_RISE (R115): RESERVOIR_READY at its new level, high, as the row's name has it and where nothing else is said, or low, as where the reservoir runs flat outside a pulse (log entry 15). -/
  | reservoirReadyRise (high : Bool := true)
  /-- RESERVOIR_TIMEOUT (R115). -/
  | reservoirTimeout
  /-- DRIVE_PULSE_END (R115); `ready` is RESERVOIR_READY as the pulse ends. -/
  | drivePulseEnd (ready : Bool)
  /-- SETTLE_END (R115). -/
  | settleEnd
  /-- STUCK_RETRY_EXPIRY (R118). -/
  | stuckRetryExpiry
  /-- RESTORE_TIMEOUT (R123). -/
  | restoreTimeout
  /-- TRIP_DAY_EXPIRY (R124). -/
  | tripDayExpiry
  /-- LOAD_SIDE_CHANGE (R120). -/
  | loadSideChange
  /-- ACCEPT_PRESS (R122). -/
  | acceptPress
  /-- WARN_CYCLE (R127). -/
  | warnCycle
  /-- STATE_LED_CYCLE (R128). -/
  | stateLedCycle
  /-- DEBOUNCE_EXPIRY (R133) of one tamper input. -/
  | debounceExpiry (input : Switch)
  /-- CHANNEL_REARMED (R1) of one channel. -/
  | channelRearmed (channel : ChannelId)
  /-- ACCEPT_RELEASED (R121). -/
  | acceptReleased
  /-- RESET_RELEASED (R184). -/
  | resetReleased
  /-- SWITCH_EDGE (R133): a sample of one tamper input, at the level given. -/
  | switchEdge (input : Switch) (high : Bool)
  /-- LOAD_SENSE_OTHER_SAMPLE (R120): a sample of LOAD_SENSE at the level given. -/
  | loadSenseOtherSample (present : Bool)
  /-- MAINS_OK_CHANGE_OUTSIDE_RUN (R175): MAINS_OK goes to the level given. -/
  | mainsOkChangeOutsideRun (high : Bool)
  deriving DecidableEq, Repr

end Sys2Proof
end

