-- ==== Sys2Proof/Decode.lean ====
section
/-! DEFINITION. The commands that the bits of spec/opcode_table.json spell. The table gives no row any bits, so no word spells a command (log entry 1). -/

namespace Sys2Proof

/-- The command that a word spells by the table's bits: none, for the table gives no row bits. -/
def decodeTableWord (_nbits _w : Nat) : Option Instr := none

end Sys2Proof
end

