-- ==== Sys2Proof/Config.lean ====
section
/-! DEFINITION. The fixed figures the manual gives, and the free values: constants with no body for what the manual leaves open (log entries 2 and 3). -/

namespace Sys2Proof

/-- The greatest clock count (R50), and the greatest value of every 32-bit quantity. -/
abbrev Config.clockMax : Nat := 4294967295
/-- The greatest lifetime total (R25). -/
abbrev Config.totalMax : Nat := 9223372036854775807
/-- The greatest debt (R32) and the greatest energy register (R27). -/
abbrev Config.debtMax : Nat := 9999999999
/-- The greatest balance (R39). -/
abbrev Config.balanceMax : Int := 9999990000
/-- A comparison window (R7) and the restore timer (R123) and the ageing of a ROUTINE request (R156): 60 s. -/
abbrev Config.minuteTicks : Nat := 61440
/-- "No recent pulse" (R2). -/
abbrev Config.quietTicks : Nat := 4194303
/-- The mains-stable count (R175). -/
abbrev Config.stableTicks : Nat := 2048
/-- The rejection run's life and the lockout (R87, R88): 60 min. -/
abbrev Config.hourTicks : Nat := 3686400
/-- The elapsed-tick timer (R61) and the stuck retry timer (R118): 900 s. -/
abbrev Config.quarterTicks : Nat := 921600
/-- The warning timer (R108): 600 s. -/
abbrev Config.warningTicks : Nat := 614400
/-- The trip-day timer (R124): 86,400 s. -/
abbrev Config.dayTicks : Nat := 88473600
/-- The load-side hold (R120): 5 s. -/
abbrev Config.loadTicks : Nat := 5120
/-- The reservoir step (R115): 30 s. -/
abbrev Config.reservoirTicks : Nat := 30720
/-- The coil pulse (R115). -/
abbrev Config.pulseTicks : Nat := 82
/-- The settle step (R115). -/
abbrev Config.settleTicks : Nat := 256
/-- A flash slot (R6). -/
abbrev Config.flashTicks : Nat := 103
/-- The daily trim allowance in each direction, in seconds (R54). -/
abbrev Config.trimAllowance : Nat := 120
/-- The divisor of the check value (R80). -/
abbrev Config.checkModulus : Nat := 999983

/-- Free value: the number that follows journal or checkpoint number 4,294,967,295. Section 7.1 gives the numbers the range 1 to 4,294,967,295 and states no successor of the last (log entry 2). -/
opaque Config.numberAfterLast : Nat → Nat

/-- Free value: which of several events due at one instant the part takes first, from the instant and how many are due. The manual says only that the outcome depends on it (log entry 3). -/
opaque Config.dueChoice : Nat → Nat → Nat

end Sys2Proof
end

