-- ==== Sys2Proof/Machine/State.lean ====
section
/-! DEFINITION. The state of the part, block by block (00_scope, "The blocks and how they work together"), as plain data, with its factory values and the state right after reset: the factory part in OFF (R170). -/

namespace Sys2Proof.Machine

/-- Why the part stops with a fault. The manual gives no event that stops it, so there is no constructor: no meaning raises a fault (safe). -/
inductive Fault where
  deriving DecidableEq, Repr

/-- Why a command is refused by the model (not a refusal of the manual, which is a reply). -/
inductive Refusal where
  /-- Raised by an arm of `exec` that has no meaning yet; no arm raises it now (safe). -/
  | notModelled (mnemonic : String)
  deriving DecidableEq, Repr

/-- The nine supply states (section 5.3). -/
inductive SupplyState where
  | closed
  | warning
  | deferred
  | opening
  | opened
  | armed
  | closing
  | stuckClosed
  | stuckOpen
  deriving DecidableEq, Repr

/-- The four causes (R105). -/
inductive Cause where
  | credit
  | tamper
  | overload
  | remote
  deriving DecidableEq, Repr

/-- The cause set (R105). -/
structure Causes where
  credit : Bool
  tamper : Bool
  overload : Bool
  remote : Bool
  deriving DecidableEq, Repr

/-- The side of IMBALANCE (R10). -/
inductive Side where
  | line
  | ret
  deriving DecidableEq, Repr

/-- A tamper kind's policy (R138). -/
inductive Policy where
  | record
  | latch
  | openSupply
  deriving DecidableEq, Repr

/-- The eight tamper kinds, in the order of section 6.1. -/
inductive TamperKind where
  | cover
  | terminal
  | magnet
  | imbalance
  | reverse
  | conductingOpen
  | switchFault
  | codeFlood
  deriving DecidableEq, Repr

/-- The direction of a drive run (R115). -/
inductive Direction where
  | toOpen
  | toClose
  deriving DecidableEq, Repr

/-- Whether battery RAM was lost before a start (R178). -/
inductive StartKind where
  | cold
  | warm
  deriving DecidableEq, Repr

/-- A timestamp: the clock count, or "clock invalid" (R51). -/
inductive Stamp where
  | secs (count : Nat)
  | clockInvalid
  deriving DecidableEq, Repr

/-- The nine alerts, in the order of section 10.2. -/
inductive Alert where
  | lowCredit
  | emergency
  | supply
  | tamper
  | tariff
  | clock
  | store
  | codeLock
  | restart
  deriving DecidableEq, Repr

/-- An alert's place in the alert set (R201): absent, present and seen, or present and unseen. -/
inductive AlertMark where
  | absent
  | seen
  | unseen
  deriving DecidableEq, Repr

/-! ### PSV (chapter 8) -/

/-- The power state (R170), with the start-up step and the start kind where they are present. -/
inductive Power where
  | off
  | startup (step : Nat) (kind : StartKind)
  | run
  | holdup
  | battery
  deriving DecidableEq, Repr

/-- A detector of a held level (R1, R121, R184): armed or not, its count as last told, and the model's own `since`, the ticks since the last sample told of it (log entry 4). -/
structure Detector where
  armed : Bool
  count : Nat
  since : Nat
  deriving DecidableEq, Repr

/-- PSV's items (section 8.1) and the applied journal number (R169), all in battery RAM. -/
structure Psv where
  power : Power
  bramValid : Bool
  stable : Nat
  reset : Detector
  applied : Nat
  deriving DecidableEq, Repr

/-! ### MIU (chapter 1) -/

/-- What MIU holds per channel (section 1.1). -/
structure Channel where
  det : Detector
  lastAt : Option Nat
  period : Option Nat
  overRun : Nat
  held : Nat
  deriving DecidableEq, Repr

/-- The open comparison window (R7). -/
structure Window where
  start : Nat
  nL : Nat
  nR : Nat
  rev : Nat
  openThroughout : Bool
  deriving DecidableEq, Repr

/-- MIU's state (section 1.1). `imbalance` is the IMBALANCE condition with its side; `flashSlot` is the tick reached in the flasher's slot. -/
structure Miu where
  line : Channel
  ret : Channel
  window : Option Window
  imbRun : Nat
  balRun : Nat
  imbalance : Option Side
  reverse : Bool
  conducting : Bool
  view : Option SupplyState
  flashPending : Nat
  flashSlot : Option Nat
  wLim : Nat
  deriving DecidableEq, Repr

/-! ### ACE (chapter 2) -/

/-- The emergency state (section 2.7), with E_taken while IN_USE. -/
inductive Emergency where
  | unavailable
  | offered
  | inUse (taken : Nat)
  deriving DecidableEq, Repr

/-- The account (section 2.1). -/
structure Ace where
  c : Int
  b : Nat
  d : Nat
  q : Nat
  em : Emergency
  cmax : Nat
  e : Nat
  lc : Nat
  share : Nat
  reg : Vector Nat 4
  creditApplied : Nat
  balanceCharges : Nat
  debtCharges : Nat
  debtRecovered : Nat
  lastQ : Nat
  deriving DecidableEq, Repr

/-! ### CTU (chapter 3) -/

/-- The clock (R50), with the ticks gone of the second now running. -/
structure Clock where
  count : Nat
  valid : Bool
  sub : Nat
  deriving DecidableEq, Repr

/-- The trim record (R54). -/
structure TrimRecord where
  day : Nat
  advance : Nat
  retard : Nat
  deriving DecidableEq, Repr

/-- A switch point of a day profile (section 3.4). -/
structure SwitchPoint where
  quarter : Option Nat
  band : Fin 4
  deriving DecidableEq, Repr

/-- A friendly window: its start and its exclusive end (R59). -/
structure FriendlyWindow where
  start : Nat
  stop : Nat
  deriving DecidableEq, Repr

/-- A tariff record (section 3.4). Switch points are profile 0 slots 0 to 5 and then profile 1; windows are profile 0 windows 0 and 1 and then profile 1. -/
structure Tariff where
  rates : Vector Nat 4
  standing : Nat
  switches : Vector SwitchPoint 12
  windows : Vector FriendlyWindow 4
  specials : Vector (Option Nat) 12
  deriving DecidableEq, Repr

/-- The activation target (R66). -/
inductive Target where
  | nextTick
  | quarter (q : Nat)
  deriving DecidableEq, Repr

/-- The pending state with what is present in it (section 3.8). -/
inductive PendingTariff where
  | none
  | editing (t : Tariff)
  | scheduled (t : Tariff) (target : Target)
  deriving DecidableEq, Repr

/-- CTU's state (section 3.1). `issued` is a named quarter tick that CTU has issued and ACE has not yet taken (R29). -/
structure Ctu where
  clock : Clock
  trim : Option TrimRecord
  active : Tariff
  pending : PendingTariff
  band : Fin 4
  friendly : Bool
  elapsed : Option Nat
  startMark : Bool
  issued : Option Nat
  deriving DecidableEq, Repr

/-! ### CRU (chapter 4) -/

/-- A journal entry (R90, section 7.1). -/
structure JournalEntry where
  number : Nat
  cls : Nat
  seq : Nat
  payload : BitVec 32
  time : Stamp
  deriving DecidableEq, Repr

/-- A redeemed-list record (section 4.1). -/
structure RedeemedRecord where
  seq : Nat
  cls : Nat
  amount : Nat
  time : Stamp
  number : Nat
  deriving DecidableEq, Repr

/-- The rejection run while its count is above 0 (R87). The start may lie before the timebase's zero, since a start sets it back by the recorded age (R102). -/
structure RejectionRun where
  count : Nat
  start : Int
  deriving DecidableEq, Repr

/-- CRU's state (section 4.1). The redeemed list is in ascending sequence. -/
structure Cru where
  key : Option (BitVec 64)
  staged : Option (BitVec 32)
  h : Option Nat
  redeemed : List RedeemedRecord
  run : Option RejectionRun
  lockEnd : Option Nat
  inFlight : Option JournalEntry
  deriving DecidableEq, Repr

/-! ### SSC (chapter 5) -/

/-- The three steps of an attempt (R115). -/
inductive DriveStep where
  | reservoir
  | pulse
  | settle
  deriving DecidableEq, Repr

/-- Why an attempt fails (R115). -/
inductive FailReason where
  | reservoir
  | verify
  deriving DecidableEq, Repr

/-- The drive run (section 5.1): direction, attempt 1 to 3, step, the ticks gone of the step, the reason of the last failed attempt, and whether a RESET in STARTUP has abandoned the run with its coil pulse still to finish (R185). -/
structure DriveRun where
  dir : Direction
  attempt : Nat
  step : DriveStep
  ticks : Nat
  lastFail : Option FailReason
  abandoned : Bool
  deriving DecidableEq, Repr

/-- The patterns of STATE_LED (R128). -/
inductive LedPattern where
  | dark
  | steady
  | square
  | singleFlash
  | doubleFlash
  deriving DecidableEq, Repr

/-- SSC's state (section 5.1), with the outputs' cycles: WARN's half-cycle (R127) and STATE_LED's segment (R128). -/
structure Ssc where
  state : SupplyState
  causes : Causes
  emptying : Option Cause
  waiver : Bool
  warn : Option Nat
  run : Option DriveRun
  stuckRetry : Option Nat
  restore : Option Nat
  trips : Nat
  tripDay : Option Nat
  loadCount : Nat
  loadSide : Bool
  accept : Detector
  friendly : Bool
  low : Bool
  emInUse : Bool
  warnOn : Bool
  warnTicks : Nat
  ledPattern : LedPattern
  ledSegment : Nat
  ledTicks : Nat
  deriving DecidableEq, Repr

/-! ### TMN (chapter 6) -/

/-- A kind record (section 6.1). -/
structure KindRecord where
  active : Bool
  latched : Bool
  count : Nat
  first : Option Stamp
  last : Option Stamp
  policy : Policy
  side : Option Side
  deriving DecidableEq, Repr

/-- The nine kinds of history event with their details (R144). A set of kinds is a mask of section 10.2. -/
inductive EventKind where
  | tamperOn (kind : TamperKind) (side : Option Side)
  | coverClosed
  | tamperCleared (kinds : BitVec 8)
  | supplyOpened (causes : Causes)
  | supplyClosed
  | supplyStuck (dir : Direction)
  | powerDown
  | powerUp (kind : StartKind)
  | keyChanged
  deriving DecidableEq, Repr

/-- A history event (R143). -/
structure Event where
  time : Stamp
  kind : EventKind
  deriving DecidableEq, Repr

/-- The debounce of one tamper input (R133): the last sample, the one-shot's count while it runs, the debounced level. -/
structure Debounce where
  last : Bool
  shot : Option Nat
  level : Bool
  deriving DecidableEq, Repr

/-- The source views of kinds 3 to 7 (R135). -/
structure Views where
  imbalance : Option Side
  reverse : Bool
  pulseSide : Bool
  loadSide : Bool
  switchFault : Bool
  codeFlood : Bool
  deriving DecidableEq, Repr

/-- TMN's state (section 6.1). The history ring is kept newest first; the battery mark is `mark`. -/
structure Tmn where
  records : Vector KindRecord 8
  history : List Event
  cover : Debounce
  terminal : Debounce
  magnet : Debounce
  views : Views
  mark : Bool
  deriving DecidableEq, Repr

/-! ### STC (chapter 7) -/

/-- Commissioning data (section 7.3): the meter number's twelve digits and P. -/
structure Commission where
  meter : List Byte
  p : Nat
  deriving DecidableEq, Repr

/-- A slot of the store: empty, holding a valid record, holding a torn record that reads as invalid (R162), or marked bad (R158). -/
inductive Slot (α : Type) where
  | empty
  | holding (record : α)
  | torn
  | bad
  deriving DecidableEq, Repr

/-- A checkpoint's content (section 7.3), with the commissioned marker (`marker`). -/
structure Checkpoint where
  number : Nat
  folded : Nat
  marker : Bool
  comm : Commission
  ace : Ace
  wLim : Nat
  active : Tariff
  pendingTariff : PendingTariff
  key : Option (BitVec 64)
  staged : Option (BitVec 32)
  h : Option Nat
  redeemed : List RedeemedRecord
  runCount : Nat
  runAge : Nat
  lockLeft : Option Nat
  supply : SupplyState
  causes : Causes
  emptying : Option Cause
  waiver : Bool
  trips : Nat
  records : Vector KindRecord 8
  history : List Event
  deriving DecidableEq, Repr

/-- What a write in flight writes (R157). -/
inductive WriteJob where
  | journal (entry : JournalEntry)
  | checkpoint (content : Checkpoint)
  | save (content : Checkpoint)
  deriving DecidableEq, Repr

/-- The write in flight: its slot, whether it is the second attempt (R158), and what it writes. -/
structure Write where
  slot : Nat
  second : Bool
  job : WriteJob
  deriving DecidableEq, Repr

/-- The newest checkpoint (section 7.1). -/
structure NewestCheckpoint where
  slot : Nat
  number : Nat
  folded : Nat
  deriving DecidableEq, Repr

/-- A waiting checkpoint request (R155, R156): its urgency and its placing moment. -/
structure CheckpointRequest where
  urgent : Bool
  placed : Nat
  deriving DecidableEq, Repr

/-- A waiting JOURNAL request (R155): its entry and its placing moment. -/
structure JournalRequest where
  entry : JournalEntry
  placed : Nat
  deriving DecidableEq, Repr

/-- Store health (R160). -/
inductive StoreHealth where
  | good
  | degraded
  | failed
  deriving DecidableEq, Repr

/-- STC's state (section 7.1). `newestNumber` is the journal number of the newest entry written good, 0 where there is none (R153, R164), `unfolded` holds the unfolded entries' journal numbers; a waiting SAVE holds its placing moment. -/
structure Stc where
  journal : Vector (Slot JournalEntry) 8
  checkpoints : Vector (Slot Checkpoint) 16
  newest : Option NewestCheckpoint
  nextCheckpoint : Nat
  nextJournal : Nat
  newestJournal : Option Nat
  newestNumber : Nat
  unfolded : List Nat
  health : StoreHealth
  saveWaiting : Option Nat
  journalWaiting : Option JournalRequest
  checkpointWaiting : Option CheckpointRequest
  write : Option Write
  deriving DecidableEq, Repr

/-! ### LKP (chapter 9) -/

/-- The receive assembler's states with the bytes each has taken (R188). -/
inductive RxState where
  | hunt
  | length
  | type (len : Nat)
  | payload (len : Nat) (type : Byte) (got : List Byte)
  | check (type : Byte) (got : List Byte) (first : Option Byte)
  deriving DecidableEq, Repr

/-- The receive assembler: its state and the moment the last byte ended (section 9.1). -/
structure Assembler where
  state : RxState
  lastByte : Nat
  deriving DecidableEq, Repr

/-- The reply statuses, in the order of section 10.1. -/
inductive Status where
  | ok
  | busy
  | notReady
  | unknownType
  | badLength
  | refused
  | outOfRange
  deriving DecidableEq, Repr

/-- A reply in the outbox: status, request type (0 where the request names none, R206), payload. -/
structure Reply where
  status : Status
  type : Nat
  payload : List Byte
  deriving DecidableEq, Repr

/-- LKP's state (section 9.1). `inService` holds the type of the request in service. The outbox is oldest first. -/
structure Lkp where
  rx : Assembler
  inService : Option Nat
  outbox : List Reply
  alerts : Vector AlertMark 9
  deriving DecidableEq, Repr

/-! ### The whole part -/

/-- The part: its pins, the monotonic timebase (`now`), the commissioning data, the nine blocks, and the model's own queue of waiting commands, first in, first out. -/
structure State where
  pins : Pins
  now : Nat
  comm : Option Commission
  psv : Psv
  miu : Miu
  ace : Ace
  ctu : Ctu
  cru : Cru
  ssc : Ssc
  tmn : Tmn
  stc : Stc
  lkp : Lkp
  pending : List Instr
  deriving DecidableEq, Repr

/-! ### Updates of one block, each with the rest unchanged -/

/-- `s` with other pin levels. -/
def State.setPins (s : State) (x : Pins) : State := { s with pins := x }
/-- `s` at another instant of the monotonic timebase. -/
def State.setNow (s : State) (x : Nat) : State := { s with now := x }
/-- `s` with other commissioning data. -/
def State.setComm (s : State) (x : Option Commission) : State := { s with comm := x }
/-- `s` with another PSV. -/
def State.setPsv (s : State) (x : Psv) : State := { s with psv := x }
/-- `s` with another MIU. -/
def State.setMiu (s : State) (x : Miu) : State := { s with miu := x }
/-- `s` with another ACE. -/
def State.setAce (s : State) (x : Ace) : State := { s with ace := x }
/-- `s` with another CTU. -/
def State.setCtu (s : State) (x : Ctu) : State := { s with ctu := x }
/-- `s` with another CRU. -/
def State.setCru (s : State) (x : Cru) : State := { s with cru := x }
/-- `s` with another SSC. -/
def State.setSsc (s : State) (x : Ssc) : State := { s with ssc := x }
/-- `s` with another TMN. -/
def State.setTmn (s : State) (x : Tmn) : State := { s with tmn := x }
/-- `s` with another STC. -/
def State.setStc (s : State) (x : Stc) : State := { s with stc := x }
/-- `s` with another LKP. -/
def State.setLkp (s : State) (x : Lkp) : State := { s with lkp := x }
/-- `s` with another queue of waiting commands. -/
def State.setPending (s : State) (x : List Instr) : State := { s with pending := x }

/-! ### Factory values -/

/-- A detector at the start of its work: disarmed, nothing counted (section 8.1, R121). -/
def Detector.disarmed : Detector := { armed := false, count := 0, since := 0 }

/-- A channel in "no recent pulse" (R22), disarmed. -/
def Channel.blank : Channel :=
  { det := .disarmed, lastAt := none, period := none, overRun := 0, held := 0 }

/-- MIU as every start begins it (R22), before the power limit and the supply view are given. -/
def Miu.blank : Miu :=
  { line := .blank, ret := .blank, window := none, imbRun := 0, balRun := 0, imbalance := none
    reverse := false, conducting := false, view := none, flashPending := 0, flashSlot := none, wLim := 0 }

/-- The account's factory values (section 2.1). -/
def Ace.factory : Ace :=
  { c := 0, b := 0, d := 0, q := 0, em := .unavailable, cmax := 2000000000, e := 0, lc := 50000000
    share := 0, reg := Vector.replicate 4 0, creditApplied := 0, balanceCharges := 0, debtCharges := 0
    debtRecovered := 0, lastQ := 0 }

/-- The factory tariff (section 3.4). -/
def Tariff.factory : Tariff :=
  { rates := Vector.replicate 4 0, standing := 0
    switches := Vector.replicate 12 { quarter := none, band := 0 }
    windows := Vector.replicate 4 { start := 0, stop := 0 }
    specials := Vector.replicate 12 none }

/-- The clock INVALID with a count of 0 (R50). -/
def Clock.invalid : Clock := { count := 0, valid := false, sub := 0 }

/-- CTU of an UNCOMMISSIONED part (R69). -/
def Ctu.factory : Ctu :=
  { clock := .invalid, trim := none, active := .factory, pending := .none, band := 0, friendly := false
    elapsed := none, startMark := false, issued := none }

/-- CRU of an UNCOMMISSIONED part (R103). -/
def Cru.factory : Cru :=
  { key := none, staged := none, h := none, redeemed := [], run := none, lockEnd := none, inFlight := none }

/-- SSC's factory values (section 5.1). -/
def Ssc.factory : Ssc :=
  { state := .opened, causes := { credit := true, tamper := false, overload := false, remote := true }
    emptying := none, waiver := false, warn := none, run := none, stuckRetry := none, restore := none
    trips := 0, tripDay := none, loadCount := 0, loadSide := false, accept := .disarmed, friendly := false
    low := true, emInUse := false, warnOn := false, warnTicks := 0, ledPattern := .singleFlash
    ledSegment := 0, ledTicks := 0 }

/-- A kind record's factory value under its default policy (section 6.1). -/
def KindRecord.factory (p : Policy) : KindRecord :=
  { active := false, latched := false, count := 0, first := none, last := none, policy := p, side := none }

/-- The factory kind records, kinds 0 to 7 (section 6.1). -/
def Tmn.factoryRecords : Vector KindRecord 8 :=
  #v[.factory .openSupply, .factory .latch, .factory .latch, .factory .record, .factory .latch,
     .factory .latch, .factory .latch, .factory .record]

/-- A debounce that is not running. -/
def Debounce.blank : Debounce := { last := false, shot := none, level := false }

/-- The views with every source inactive. -/
def Views.inactive : Views :=
  { imbalance := none, reverse := false, pulseSide := false, loadSide := false, switchFault := false
    codeFlood := false }

/-- TMN of an UNCOMMISSIONED part (R150). -/
def Tmn.factory : Tmn :=
  { records := Tmn.factoryRecords, history := [], cover := .blank, terminal := .blank, magnet := .blank
    views := .inactive, mark := false }

/-- STC over an empty store (R166). -/
def Stc.factory : Stc :=
  { journal := Vector.replicate 8 .empty, checkpoints := Vector.replicate 16 .empty, newest := none
    nextCheckpoint := 1, nextJournal := 1, newestJournal := none, newestNumber := 0, unfolded := [], health := .good
    saveWaiting := none, journalWaiting := none, checkpointWaiting := none, write := none }

/-- LKP after every start (section 9.1). -/
def Lkp.blank : Lkp :=
  { rx := { state := .hunt, lastByte := 0 }, inService := none, outbox := []
    alerts := Vector.replicate 9 .absent }

/-- The levels the pins hold at reset: the manual gives none (log entry 5). -/
def pinsAtReset : Pins :=
  { linePulse := false, lineDir := false, returnPulse := false, cover := false, terminal := false
    magnet := false, accept := false, loadSense := false, reservoirReady := false, mainsOk := false
    reset := false, vbat := true }

/-- The part right after reset: the factory part, OFF with battery RAM invalid and every store slot empty (R166, R170), and no command waiting. -/
def State.reset : State :=
  { pins := pinsAtReset, now := 0, comm := none
    psv := { power := .off, bramValid := false, stable := 0, reset := .disarmed, applied := 0 }
    miu := .blank, ace := .factory, ctu := .factory, cru := .factory, ssc := .factory, tmn := .factory
    stc := .factory, lkp := .blank, pending := [] }

end Sys2Proof.Machine
end

