-- ==== Sys2Proof/Machine/Flags.lean ====
section
/-! DEFINITION. The power-state tests that gate the blocks, the alert set with its marks (chapter 9.4), and the order of the manual's code lists (section 10.2). -/

namespace Sys2Proof.Machine

/-! ### Power states -/

/-- RUN or HOLDUP. -/
def Power.running : Power → Bool
  | .run => true
  | .holdup => true
  | _ => false

/-- The main-supply blocks are powered: STARTUP, RUN or HOLDUP (R170). -/
def Power.mainPowered : Power → Bool
  | .startup _ _ => true
  | p => p.running

/-- The start-up step, 0 outside STARTUP. -/
def Power.step : Power → Nat
  | .startup k _ => k
  | _ => 0

/-- The power state's place in the list of section 10.2. -/
def Power.code : Power → Nat
  | .off => 0
  | .startup _ _ => 1
  | .run => 2
  | .holdup => 3
  | .battery => 4

/-- In STARTUP at a step up to `k`. -/
def Power.startupUpTo (k : Nat) : Power → Bool
  | .startup n _ => decide (n ≤ k)
  | _ => false

/-- The part has been provisioned (R199). -/
def State.commissioned (s : State) : Bool := s.comm.isSome

/-- SSC reacts to its cause set and to the friendly flag: in RUN and HOLDUP, and in STARTUP from step 4 on; before that the set changes with no state change (R131). -/
def State.sscLive (s : State) : Bool := s.psv.power.mainPowered && !(s.psv.power.startupUpTo 3)

/-- Reports act on the kind records: everywhere but in STARTUP before the end of step 3 (R135). -/
def State.recordsLive (s : State) : Bool := !(s.psv.power.startupUpTo 3)

/-- STC takes checkpoint requests: in RUN, HOLDUP and STARTUP from the end of step 2 (R165), on a commissioned part (R166). -/
def State.storeTaking (s : State) : Bool :=
  s.commissioned && s.psv.power.mainPowered && !(s.psv.power.startupUpTo 2)

/-- TMN tells SSC of TAMPER: SSC is powered and restored (R146, R147). -/
def State.tamperTold (s : State) : Bool := s.psv.power.mainPowered && !(s.psv.power.startupUpTo 2)

/-! ### Alerts -/

/-- An alert's bit (section 10.2). -/
def Alert.idx : Alert → Fin 9
  | .lowCredit => 0
  | .emergency => 1
  | .supply => 2
  | .tamper => 3
  | .tariff => 4
  | .clock => 5
  | .store => 6
  | .codeLock => 7
  | .restart => 8

/-- LKP makes an alert present and unseen (R201). -/
def markAlert (a : Alert) (s : State) : State :=
  s.setLkp { s.lkp with alerts := s.lkp.alerts.set a.idx .unseen }

/-- A block raises an alert: it reaches LKP in RUN and HOLDUP only (R201), and on a commissioned part only (R205). -/
def raiseAlert (a : Alert) (s : State) : State :=
  if s.psv.power.running && s.commissioned then markAlert a s else s

/-- READ_ALERTS' marking: every present alert becomes seen (R202). -/
def AlertMark.markSeen : AlertMark → AlertMark
  | .absent => .absent
  | .seen => .seen
  | .unseen => .seen

/-- The alert set as a mask of present kinds (section 10.4). -/
def alertMask (p : AlertMark → Bool) (v : Vector AlertMark 9) : Nat :=
  (List.range 9).foldl (fun m i => if p (v.toList.getD i .absent) then m + 2 ^ i else m) 0

/-- The mask of the present alerts. -/
def presentMask (v : Vector AlertMark 9) : Nat := alertMask (fun m => m != .absent) v

/-- The mask of the present and unseen alerts. -/
def unseenMask (v : Vector AlertMark 9) : Nat := alertMask (fun m => m == .unseen) v

/-- CLEAR_ALERTS' removal: a named alert goes if it is present and seen (R203). -/
def clearSeen (mask : Nat) (v : Vector AlertMark 9) : Vector AlertMark 9 :=
  v.mapIdx fun i m => if mask.testBit i && m == .seen then .absent else m

/-! ### Places in the code lists of section 10.2 -/

/-- A tamper kind's number (section 6.1). -/
def TamperKind.idx : TamperKind → Fin 8
  | .cover => 0
  | .terminal => 1
  | .magnet => 2
  | .imbalance => 3
  | .reverse => 4
  | .conductingOpen => 5
  | .switchFault => 6
  | .codeFlood => 7

/-- The eight kinds in order. -/
def allKinds : List TamperKind :=
  [.cover, .terminal, .magnet, .imbalance, .reverse, .conductingOpen, .switchFault, .codeFlood]

/-- A supply state's place. -/
def SupplyState.code : SupplyState → Nat
  | .closed => 0
  | .warning => 1
  | .deferred => 2
  | .opening => 3
  | .opened => 4
  | .armed => 5
  | .closing => 6
  | .stuckClosed => 7
  | .stuckOpen => 8

/-- The cause set as a mask. -/
def Causes.mask (c : Causes) : Nat :=
  c.credit.toNat + 2 * c.tamper.toNat + 4 * c.overload.toNat + 8 * c.remote.toNat

/-- The empty cause set. -/
def Causes.isEmpty (c : Causes) : Bool := !(c.credit || c.tamper || c.overload || c.remote)

/-- Whether a cause is in the set. -/
def Causes.has (c : Causes) : Cause → Bool
  | .credit => c.credit
  | .tamper => c.tamper
  | .overload => c.overload
  | .remote => c.remote

/-- The set with a cause made present or absent. -/
def Causes.put (c : Causes) (k : Cause) (x : Bool) : Causes :=
  match k with
  | .credit => { c with credit := x }
  | .tamper => { c with tamper := x }
  | .overload => { c with overload := x }
  | .remote => { c with remote := x }

/-- A cause other than CREDIT is present. -/
def Causes.beyondCredit (c : Causes) : Bool := c.tamper || c.overload || c.remote

/-- A policy's place. -/
def Policy.code : Policy → Nat
  | .record => 0
  | .latch => 1
  | .openSupply => 2

/-- A side's code in READ_TAMPER and READ_HISTORY (section 10.4). -/
def sideCode : Option Side → Nat
  | none => 0
  | some .line => 1
  | some .ret => 2

/-- The emergency state's place. -/
def Emergency.code : Emergency → Nat
  | .unavailable => 0
  | .offered => 1
  | .inUse _ => 2

/-- Store health's place. -/
def StoreHealth.code : StoreHealth → Nat
  | .good => 0
  | .degraded => 1
  | .failed => 2

/-- The pending state's place. -/
def PendingTariff.code : PendingTariff → Nat
  | .none => 0
  | .editing _ => 1
  | .scheduled _ _ => 2

/-- A reply status' place (section 10.1). -/
def Status.code : Status → Nat
  | .ok => 0
  | .busy => 1
  | .notReady => 2
  | .unknownType => 3
  | .badLength => 4
  | .refused => 5
  | .outOfRange => 6

end Sys2Proof.Machine
end

