-- ==== Sys2Proof/Machine/Operands.lean ====
section
/-! DEFINITION. The operand forms: big-endian bytes (Formats), the link's frame and its CRC (R188), the fields of a code's payload (R84, section 10.5), and the unscrambling of a code (R79, R80). -/

namespace Sys2Proof.Machine

/-! ### Bytes -/

/-- A number as `n` bytes, most significant first (Formats), modulo 2^(8n). -/
def be : Nat → Nat → List Byte
  | 0, _ => []
  | n + 1, x => BitVec.ofNat 8 (x >>> (8 * n)) :: be n x

/-- A signed number as `n` bytes in two's complement, most significant first. -/
def beInt (n : Nat) (x : Int) : List Byte := be n (x % (2 ^ (8 * n) : Nat)).toNat

/-- The number that bytes spell, most significant first. -/
def ofBe (l : List Byte) : Nat := l.foldl (fun a b => a * 256 + b.toNat) 0

/-- The signed number that four bytes spell in two's complement. -/
def ofBeSigned32 (l : List Byte) : Int := (BitVec.ofNat 32 (ofBe l)).toInt

/-- A byte that is an ASCII digit, 30 hex to 39 hex (R78, R207). -/
def isDigit (b : Byte) : Bool := decide (48 ≤ b.toNat) && decide (b.toNat ≤ 57)

/-! ### The frame (R188, section 10.1) -/

/-- One bit of the CRC: polynomial 1021 hex, most significant bit first. -/
def crcBit (c : BitVec 16) : BitVec 16 :=
  if c.msb then (c <<< 1) ^^^ 0x1021#16 else c <<< 1

/-- The CRC after one more byte. -/
def crcByte (c : BitVec 16) (b : Byte) : BitVec 16 :=
  let c := c ^^^ (b.setWidth 16 <<< 8)
  crcBit (crcBit (crcBit (crcBit (crcBit (crcBit (crcBit (crcBit c)))))))

/-- The CRC of bytes from the initial value FFFF hex, with no final inversion. -/
def crc16 (l : List Byte) : BitVec 16 := l.foldl crcByte 0xFFFF#16

/-- The bytes the CRC covers: length, type and payload. -/
def covered (type : Byte) (payload : List Byte) : List Byte :=
  BitVec.ofNat 8 payload.length :: type :: payload

/-- A whole frame: the sync byte A5 hex, length, type, payload, CRC. -/
def frame (type : Byte) (payload : List Byte) : List Byte :=
  0xA5#8 :: covered type payload ++ be 2 (crc16 (covered type payload)).toNat

/-- What the assembler makes of one byte. -/
inductive RxResult where
  /-- the frame goes on, or no frame is under way -/
  | more
  /-- the frame is discarded (R189) -/
  | discard
  /-- the request is complete (R190) -/
  | complete (type : Byte) (payload : List Byte)
  deriving DecidableEq, Repr

/-- The assembler's table: the next state at a byte, and what has come of it (R188). -/
def rxByte (st : RxState) (b : Byte) : RxState × RxResult :=
  match st with
  | .hunt => if b = 0xA5#8 then (.length, .more) else (.hunt, .more)
  | .length => if b.toNat ≤ 60 then (.type b.toNat, .more) else (.hunt, .discard)
  | .type n => if n = 0 then (.check b [] none, .more) else (.payload n b [], .more)
  | .payload n t got =>
    if (got ++ [b]).length = n then (.check t (got ++ [b]) none, .more)
    else (.payload n t (got ++ [b]), .more)
  | .check t got none => (.check t got (some b), .more)
  | .check t got (some a) =>
    if crc16 (covered t got) = a ++ b then (.hunt, .complete t got) else (.hunt, .discard)

/-- Where bytes with good stop bits take the assembler from a state, and what the last of them made. -/
def rxBytes (st : RxState) : List Byte → RxState × RxResult
  | [] => (st, .more)
  | [b] => rxByte st b
  | b :: l => rxBytes (rxByte st b).1 l

/-! ### Unscrambling (R79) and the plain code (R80) -/

/-- Round key `i`: K rotated right by 5i, its lower 36 bits. -/
def roundKey (k : BitVec 64) (i : Nat) : BitVec 36 := (k.rotateRight (5 * i)).setWidth 36

/-- The mixing function F. -/
def mixF (x k : BitVec 36) : BitVec 36 := (x + k).rotateLeft 9 ^^^ x.rotateRight 13

/-- One unscrambling round on the halves (L, X). -/
def unround (k : BitVec 64) (i : Nat) (v : BitVec 36 × BitVec 36) : BitVec 36 × BitVec 36 :=
  (v.2 ^^^ mixF v.1 (roundKey k i), v.1)

/-- One scrambling round, as the issuing system makes it (section 4.4, "Making a code"). -/
def scrambleRound (k : BitVec 64) (i : Nat) (v : BitVec 36 × BitVec 36) : BitVec 36 × BitVec 36 :=
  (v.2, v.1 ^^^ mixF v.2 (roundKey k i))

/-- The two halves of a 72-bit value. -/
def halves (v : BitVec 72) : BitVec 36 × BitVec 36 := (v.extractLsb' 36 36, v.extractLsb' 0 36)

/-- The value of two halves. -/
def joined (v : BitVec 36 × BitVec 36) : BitVec 72 := v.1 ++ v.2

/-- The plain value of a scrambled number: rounds 5 down to 0 (R79). -/
def unscramble (k : BitVec 64) (v : BitVec 72) : BitVec 72 :=
  joined ([5, 4, 3, 2, 1, 0].foldl (fun x i => unround k i x) (halves v))

/-- The scrambled number of a plain value: rounds 0 up to 5 (section 4.4). -/
def scramble (k : BitVec 64) (v : BitVec 72) : BitVec 72 :=
  joined ([0, 1, 2, 3, 4, 5].foldl (fun x i => scrambleRound k i x) (halves v))

/-- A plain code's fields (R80). -/
structure PlainCode where
  cls : Nat
  seq : Nat
  payload : BitVec 32
  check : Nat
  deriving DecidableEq, Repr

/-- The plain value cut into its fields, most significant first (R80). -/
def cutPlain (v : BitVec 72) : PlainCode :=
  { cls := (v.extractLsb' 68 4).toNat, seq := (v.extractLsb' 52 16).toNat
    payload := v.extractLsb' 20 32, check := (v.extractLsb' 0 20).toNat }

/-- The check value that a class, sequence and payload must carry: N mod 999,983 (R80). -/
def checkOf (cls seq : Nat) (payload : BitVec 32) : Nat :=
  (cls * 2 ^ 48 + seq * 2 ^ 32 + payload.toNat) % Config.checkModulus

/-- The number that 22 ASCII digits spell, where it is below 2^72; none is FORMAT (R78). -/
def parseDigits (l : List Byte) : Option (BitVec 72) :=
  if l.length = 22 ∧ l.all isDigit then
    let v := l.foldl (fun a b => a * 10 + (b.toNat - 48)) 0
    if v < 2 ^ 72 then some (BitVec.ofNat 72 v) else none
  else none

/-! ### The fields of a code's payload (R84, section 10.5) -/

/-- What a code of each class carries. -/
inductive CodeAction where
  | credit (amount : Nat)
  | rate (band : Fin 4) (rate : Nat)
  | switchPoint (index : Fin 12) (point : SwitchPoint)
  | special (slot : Fin 12) (day : Option Nat)
  | friendly (index : Fin 4) (window : FriendlyWindow)
  | activate (day : Nat)
  | standing (amount : Nat)
  | limit (which value : Nat)
  | debt (share units : Nat)
  | tamperClear (kinds : BitVec 8)
  | policy (kind : TamperKind) (policy : Policy)
  | clock (secs : Nat)
  | keyHi (half : BitVec 32)
  | keyLo (half : BitVec 32)
  | supply (release : Bool)
  deriving DecidableEq, Repr

/-- `x` as a number below `n`, if it is one. -/
def below (n x : Nat) : Option (Fin n) := if h : x < n then some ⟨x, h⟩ else none

/-- Byte `i` of a payload, byte 3 most significant (section 10.5). -/
def payloadByte (p : BitVec 32) (i : Nat) : Nat := (p.toNat >>> (8 * i)) % 256

/-- Bytes 2 to 0 of a payload. -/
def payload24 (p : BitVec 32) : Nat := p.toNat % 2 ^ 24

/-- Bytes 1 and 0 of a payload. -/
def payload16 (p : BitVec 32) : Nat := p.toNat % 2 ^ 16

/-- The tamper kind of a number. -/
def kindOf : Nat → Option TamperKind := fun n => allKinds[n]?

/-- The policy of a number (section 10.2). -/
def policyOf : Nat → Option Policy
  | 0 => some .record
  | 1 => some .latch
  | 2 => some .openSupply
  | _ => none

/-- LIMIT's range by its `which` field (R84). -/
def limitInRange (which value : Nat) : Bool :=
  match which with
  | 0 => decide (value ≤ 999999)
  | 1 => decide (value ≤ 10000)
  | 2 => decide (value ≤ 100000)
  | 3 => decide (value = 0) || (decide (100 ≤ value) && decide (value ≤ 65000))
  | _ => false

/-- A SWITCH payload (R84): profile, slot, quarter with 127 for none, band. -/
def parseSwitch (p : BitVec 32) : Option CodeAction :=
  let profile := payloadByte p 3
  let slot := payloadByte p 2
  let quarter := payloadByte p 1
  if profile ≤ 1 ∧ slot ≤ 5 ∧ (quarter ≤ 95 ∨ quarter = 127) then
    match below 12 (profile * 6 + slot), below 4 (payloadByte p 0) with
    | some i, some b =>
      some (.switchPoint i { quarter := if quarter = 127 then none else some quarter, band := b })
    | _, _ => none
  else none

/-- A FRIENDLY payload (R84): profile, window, start, end. -/
def parseFriendly (p : BitVec 32) : Option CodeAction :=
  let profile := payloadByte p 3
  let window := payloadByte p 2
  let start := payloadByte p 1
  let stop := payloadByte p 0
  if profile ≤ 1 ∧ window ≤ 1 ∧ start ≤ 95 ∧ stop ≤ 95 then
    (below 4 (profile * 2 + window)).map fun i => .friendly i { start := start, stop := stop }
  else none

/-- The payload read as the fields of its class, each in its range; none is VALUE (R84). -/
def parseAction (cls : Nat) (p : BitVec 32) : Option CodeAction :=
  match cls with
  | 0 => if p.toNat = 0 then none else some (.credit p.toNat)
  | 1 =>
    if payload24 p ≤ 9999999 then (below 4 (payloadByte p 3)).map (.rate · (payload24 p)) else none
  | 2 => parseSwitch p
  | 3 =>
    if payloadByte p 2 = 0 then
      (below 12 (payloadByte p 3)).map
        (.special · (if payload16 p = 65535 then none else some (payload16 p)))
    else none
  | 4 => parseFriendly p
  | 5 => if p.toNat ≤ 65535 then some (.activate p.toNat) else none
  | 6 => if p.toNat ≤ 9999999 then some (.standing p.toNat) else none
  | 7 =>
    if limitInRange (payloadByte p 3) (payload24 p) then
      some (.limit (payloadByte p 3) (payload24 p))
    else none
  | 8 =>
    if payloadByte p 3 ≤ 50 ∧ payload24 p ≤ 999999 then
      some (.debt (payloadByte p 3) (payload24 p))
    else none
  | 9 => if 0 < p.toNat ∧ p.toNat ≤ 255 then some (.tamperClear (p.setWidth 8)) else none
  | 10 =>
    if payloadByte p 3 = 0 ∧ payloadByte p 2 = 0 then
      match kindOf (payloadByte p 1), policyOf (payloadByte p 0) with
      | some k, some q => some (.policy k q)
      | _, _ => none
    else none
  | 11 => some (.clock p.toNat)
  | 12 => some (.keyHi p)
  | 13 => some (.keyLo p)
  | 14 => if p.toNat ≤ 1 then some (.supply (decide (p.toNat = 1))) else none
  | _ => none

end Sys2Proof.Machine
end

