-- ==== Sys2Proof/Machine/Ops.lean ====
section
/-! DEFINITION. The shared operations: the passing of time over the timers and samples, timestamps, the history ring, checkpoint requests, replies, and the indicator and ATTENTION outputs. -/

namespace Sys2Proof.Machine

/-! ### Time -/

/-- A timer moved on by `n` ticks: it counts while it runs and stays at its length once it is reached. -/
def timerOn (len n : Nat) (t : Option Nat) : Option Nat := t.map fun k => satAdd len k n

/-- A detector `n` ticks on, its `since` saturating at the hold it needs. -/
def Detector.on (hold n : Nat) (d : Detector) : Detector := { d with since := satAdd hold d.since n }

/-- The length in ticks of a segment of a STATE_LED pattern; none where the pattern has no cycle (R128). -/
def ledSegmentTicks (p : LedPattern) (segment : Nat) : Option Nat :=
  match p with
  | .dark => none
  | .steady => none
  | .square => some 512
  | .singleFlash => some (if segment = 0 then 51 else 4045)
  | .doubleFlash =>
    some (if segment = 0 then 51 else if segment = 1 then 205 else if segment = 2 then 51 else 1741)

/-- The number of segments of a STATE_LED pattern's cycle (R128). -/
def ledSegments : LedPattern → Nat
  | .dark => 1
  | .steady => 1
  | .square => 2
  | .singleFlash => 2
  | .doubleFlash => 4

/-- Whether STATE_LED is lit in a segment of a pattern (R128). -/
def ledLit (p : LedPattern) (segment : Nat) : Bool :=
  match p with
  | .dark => false
  | .steady => true
  | _ => segment % 2 = 0

/-- The length of an attempt's step (R115). -/
def DriveStep.length : DriveStep → Nat
  | .reservoir => Config.reservoirTicks
  | .pulse => Config.pulseTicks
  | .settle => Config.settleTicks

/-- A drive run `n` ticks on. -/
def DriveRun.on (n : Nat) (r : DriveRun) : DriveRun :=
  { r with ticks := satAdd r.step.length r.ticks n }

/-- The one-shot length of a tamper input (section 6.1). -/
def debounceTicks : Switch → Nat
  | .cover => 512
  | .terminal => 512
  | .magnet => 2048

/-- A debounce `n` ticks on. -/
def Debounce.on (len n : Nat) (d : Debounce) : Debounce := { d with shot := timerOn len n d.shot }

/-- PSV `n` ticks on: the mains-stable count samples MAINS_OK (R175). -/
def Psv.on (mainsOk : Bool) (n : Nat) (p : Psv) : Psv :=
  { p with
    stable := if mainsOk then satAdd Config.stableTicks p.stable n else 0
    reset := p.reset.on 32 n }

/-- The flasher `n` ticks on: when idle with a flash pending it takes one and starts a slot (R6). -/
def Miu.flashOn (n : Nat) (m : Miu) : Miu :=
  match m.flashSlot with
  | some k => { m with flashSlot := some (satAdd Config.flashTicks k n) }
  | none =>
    if 0 < m.flashPending then
      { m with flashPending := m.flashPending - 1, flashSlot := some (satAdd Config.flashTicks 0 n) }
    else m

/-- MIU `n` ticks on. -/
def Miu.on (n : Nat) (m : Miu) : Miu :=
  let m := m.flashOn n
  { m with
    line := { m.line with det := m.line.det.on 4 n }
    ret := { m.ret with det := m.ret.det.on 4 n } }

/-- CTU `n` ticks on: the second now running and the elapsed-tick timer. -/
def Ctu.on (n : Nat) (c : Ctu) : Ctu :=
  { c with
    clock := if c.clock.valid then { c.clock with sub := c.clock.sub + n } else c.clock
    elapsed := timerOn Config.quarterTicks n c.elapsed }

/-- SSC `n` ticks on: its timers, the load-side count in OPEN where SSC is live (`watch`, R120), and the output cycles. -/
def Ssc.on (watch loadSense : Bool) (n : Nat) (x : Ssc) : Ssc :=
  { x with
    warn := timerOn Config.warningTicks n x.warn
    run := x.run.map (·.on n)
    stuckRetry := timerOn Config.quarterTicks n x.stuckRetry
    restore := timerOn Config.minuteTicks n x.restore
    tripDay := timerOn Config.dayTicks n x.tripDay
    loadCount := if watch && x.state == .opened then
        (if loadSense != x.loadSide then satAdd Config.loadTicks x.loadCount n else 0)
      else x.loadCount
    accept := x.accept.on 1024 n
    warnTicks := if x.warn.isSome then satAdd 512 x.warnTicks n else x.warnTicks
    ledTicks := match ledSegmentTicks x.ledPattern x.ledSegment with
      | some k => satAdd k x.ledTicks n
      | none => x.ledTicks }

/-- TMN's debounces `n` ticks on (R133). -/
def Tmn.on (n : Nat) (t : Tmn) : Tmn :=
  { t with
    cover := t.cover.on 512 n
    terminal := t.terminal.on 512 n
    magnet := t.magnet.on 2048 n }

/-- `n` ticks pass with every pin at its level: the timebase and whatever counts in the part move on. In OFF nothing does (R170). -/
def elapse (n : Nat) (s : State) : State :=
  if n = 0 ∨ s.psv.power = .off then s
  else
    { s with
      now := s.now + n
      psv := s.psv.on s.pins.mainsOk n
      miu := s.miu.on n
      ctu := s.ctu.on n
      ssc := s.ssc.on s.sscLive s.pins.loadSense n
      tmn := s.tmn.on n }

/-! ### Timestamps and the history ring -/

/-- The timestamp CTU gives now (R51). -/
def State.stamp (s : State) : Stamp := if s.ctu.clock.valid then .secs s.ctu.clock.count else .clockInvalid

/-- An event appended to the ring as the newest, the oldest of 32 removed first (R143). -/
def pushEvent (e : Event) (l : List Event) : List Event := (e :: l).take 32

/-- TMN appends an event with a given time; none on an UNCOMMISSIONED part (R150). -/
def appendEventAt (time : Stamp) (k : EventKind) (s : State) : State :=
  if s.commissioned then
    s.setTmn { s.tmn with history := pushEvent { time := time, kind := k } s.tmn.history }
  else s

/-- TMN appends an event timed by the clock now (R144). -/
def appendEvent (k : EventKind) (s : State) : State := appendEventAt s.stamp k s

/-! ### Checkpoint requests -/

/-- A SAVE waits or is in flight (R156). -/
def Stc.saving (x : Stc) : Bool :=
  x.saveWaiting.isSome ||
    (match x.write with
     | some { job := .save _, .. } => true
     | _ => false)

/-- Two checkpoint requests become one: the higher urgency, the older placing moment (R156). -/
def mergeRequest (urgent : Bool) (now : Nat) : Option CheckpointRequest → CheckpointRequest
  | none => { urgent := urgent, placed := now }
  | some r => { r with urgent := r.urgent || urgent }

/-- A block places a checkpoint request (R155): it merges with a waiting one, or is dropped where STC takes none (R165, R166) and while a SAVE waits or is in flight (R156). -/
def requestCheckpoint (urgent : Bool) (s : State) : State :=
  if s.storeTaking && !s.stc.saving then
    s.setStc { s.stc with checkpointWaiting := some (mergeRequest urgent s.now s.stc.checkpointWaiting) }
  else s

/-- The journal or checkpoint number after `n` (R151, R154); past the end of the range it is free (log entry 2). -/
def succNumber (n : Nat) : Nat := if n < Config.clockMax then n + 1 else Config.numberAfterLast n

/-! ### Replies -/

/-- A reply is handed to the outbox; a fifth is lost (R191). -/
def pushReply (r : Reply) (s : State) : State :=
  if s.lkp.outbox.length < 4 then s.setLkp { s.lkp with outbox := s.lkp.outbox ++ [r] } else s

/-- A reply's frame on TXD: type byte status × 16 + request type (section 10.1). -/
def Reply.bytes (r : Reply) : List Byte :=
  frame (BitVec.ofNat 8 (r.status.code * 16 + r.type)) r.payload

/-- The payload of a NOT_READY reply: power state and start-up step (R206). -/
def notReadyPayload (s : State) : List Byte :=
  [BitVec.ofNat 8 s.psv.power.code, BitVec.ofNat 8 s.psv.power.step]

/-! ### Outputs -/

/-- ATTENTION is driven low: some present alert is unseen (R204). -/
def State.attentionLow (s : State) : Bool :=
  s.psv.power.mainPowered && s.lkp.alerts.toList.any (· == .unseen)

/-- PULSE_LED is lit for the first 31 ticks of a slot (R6). An idle flasher with a flash pending is in tick 0 of that flash's slot, which it counts off as the tick passes (log entry 17). -/
def State.pulseLed (s : State) : Bool :=
  s.psv.power.mainPowered && (match s.miu.flashSlot with
    | some k => decide (k < 31)
    | none => decide (0 < s.miu.flashPending))

/-- STATE_LED, from step 2 of STARTUP on (R128, R187). -/
def State.stateLed (s : State) : Bool :=
  s.psv.power.mainPowered && !(s.psv.power.startupUpTo 1) && ledLit s.ssc.ledPattern s.ssc.ledSegment

/-- TAMPER_LED is lit while the latch set is not empty (R139). -/
def State.tamperLed (s : State) : Bool :=
  s.psv.power.mainPowered && s.commissioned && s.tmn.records.toList.any (·.latched)

/-- The WARN output (R127). -/
def State.warnOut (s : State) : Bool := s.psv.power.mainPowered && s.ssc.warnOn

/-- A coil is driven: OPEN_DRIVE or CLOSE_DRIVE is high only in a pulse step of a run of its direction (R115). -/
def State.driven (s : State) (dir : Direction) : Bool :=
  match s.ssc.run with
  | some r => r.step == .pulse && r.dir == dir
  | none => false

/-- The OPEN_DRIVE output. -/
def State.openDrive (s : State) : Bool := s.driven .toOpen

/-- The CLOSE_DRIVE output. -/
def State.closeDrive (s : State) : Bool := s.driven .toClose

/-- The frame TXD is sending: the oldest reply's (R191); none where the line is idle. -/
def State.txFrame (s : State) : Option (List Byte) := s.lkp.outbox.head?.map Reply.bytes

end Sys2Proof.Machine
end

