-- ==== Sys2Proof/Machine/Tamper.lean ====
section
/-! DEFINITION. TMN's records (chapter 6): occurrences, falling conditions and reports, up to the point where TMN judges the TAMPER cause. The judgement itself, with SSC's reaction, is in Machine/TamperCause.lean. -/

namespace Sys2Proof.Machine

/-- A kind's record. -/
def State.kindRecord (s : State) (k : TamperKind) : KindRecord := s.tmn.records[k.idx]

/-- `s` with a kind's record replaced. -/
def setRecord (k : TamperKind) (r : KindRecord) (s : State) : State :=
  s.setTmn { s.tmn with records := s.tmn.records.set k.idx r }

/-- The latch set as a mask (R139). -/
def latchMask (v : Vector KindRecord 8) : BitVec 8 :=
  allKinds.foldl (fun m k => if v[k.idx].latched then m ||| BitVec.ofNat 8 (2 ^ k.idx.val) else m) 0

/-- The latch set is not empty. -/
def anyLatched (v : Vector KindRecord 8) : Bool := allKinds.any fun k => v[k.idx].latched

/-- TAMPER must be present: some latched kind has policy OPEN (R138). -/
def wantsTamper (v : Vector KindRecord 8) : Bool :=
  allKinds.any fun k => v[k.idx].latched && v[k.idx].policy == .openSupply

/-- The urgent request of an occurrence, or the battery mark in BATTERY and in STARTUP before the end of step 2 (R136, step 5). -/
def requestOrMark (s : State) : State :=
  if s.psv.power = .battery ∨ s.psv.power.startupUpTo 2 then s.setTmn { s.tmn with mark := true }
  else requestCheckpoint true s

/-- The record after an occurrence at a time (R136, steps 1 to 3 and the latch of step 6). -/
def KindRecord.occurred (r : KindRecord) (t : Stamp) (side : Option Side) : KindRecord :=
  { r with
    active := true
    count := satAdd 65535 r.count 1
    first := if r.first = none then some t else r.first
    last := some t
    latched := if r.policy = .record then r.latched else true
    side := side }

/-- An occurrence (R136, steps 1 to 6). -/
def occurrence (k : TamperKind) (side : Option Side) (s : State) : State :=
  let t := s.stamp
  let s1 := setRecord k ((s.kindRecord k).occurred t side) s
  let s2 := appendEventAt t (.tamperOn k side) s1
  let s3 := requestOrMark s2
  if (s.kindRecord k).policy = .record then s3 else raiseAlert .tamper s3

/-- A kind's condition rises: an occurrence on a commissioned part; on an UNCOMMISSIONED one the condition alone (R150). -/
def conditionRises (k : TamperKind) (side : Option Side) (s : State) : State :=
  if s.commissioned then occurrence k side s
  else setRecord k { s.kindRecord k with active := true } s

/-- A kind's condition falls: the side goes, and COVER appends COVER_CLOSED (R137). -/
def conditionFalls (k : TamperKind) (s : State) : State :=
  let s1 := setRecord k { s.kindRecord k with active := false, side := none } s
  if k = .cover then appendEvent .coverClosed s1 else s1

/-- The condition that the views give a kind of 3 to 7 (R135); a switch kind's stays as its record has it. -/
def viewCondition (v : Views) (r : KindRecord) : TamperKind → Bool
  | .imbalance => v.imbalance.isSome
  | .reverse => v.reverse
  | .conductingOpen => v.pulseSide || v.loadSide
  | .switchFault => v.switchFault
  | .codeFlood => v.codeFlood
  | _ => r.active

/-- The side that goes with a kind's occurrence (R135). -/
def viewSide (v : Views) : TamperKind → Option Side
  | .imbalance => v.imbalance
  | _ => none

/-- A changed view makes a kind's condition rise. -/
def reportRises (k : TamperKind) (v : Views) (s : State) : Bool :=
  s.recordsLive && v != s.tmn.views && viewCondition v (s.kindRecord k) k && !(s.kindRecord k).active

/-- A report changes the views, and the kind's condition with them where the records are live (R135); TMN's judgement of TAMPER after an occurrence is the caller's. -/
def reportQuiet (k : TamperKind) (v : Views) (s : State) : State :=
  let s1 := s.setTmn { s.tmn with views := v }
  if s.recordsLive && v != s.tmn.views then
    let c := viewCondition v (s.kindRecord k) k
    if c && !(s.kindRecord k).active then conditionRises k (viewSide v k) s1
    else if !c && (s.kindRecord k).active then conditionFalls k s1
    else s1
  else s1

end Sys2Proof.Machine
end

