-- ==== Sys2Proof/Machine/Supply.lean ====
section
/-! DEFINITION. SSC's shared operations (chapter 5): entering a supply state, drive runs, and the reaction to the cause set, to the friendly flag and to what ACE tells. -/

namespace Sys2Proof.Machine

/-! ### STATE_LED and telling MIU -/

/-- The pattern SSC chooses (R128). -/
def ledPatternOf (st : SupplyState) (lowOrUse : Bool) : LedPattern :=
  match st with
  | .closed | .warning | .deferred | .closing => if lowOrUse then .square else .steady
  | .opened | .opening => .singleFlash
  | .armed => .doubleFlash
  | .stuckClosed | .stuckOpen => .dark

/-- A changed pattern starts at the beginning of its cycle; an unchanged one carries on (R128). -/
def Ssc.refreshLed (x : Ssc) : Ssc :=
  let p := ledPatternOf x.state (x.low || x.emInUse)
  if p = x.ledPattern then x else { x with ledPattern := p, ledSegment := 0, ledTicks := 0 }

/-- MIU leaves OPEN: the open window's flag is cleared and an active pulse side falls (R12). -/
def miuLeavesOpen (s : State) : State :=
  let s1 := s.setMiu { s.miu with
    window := s.miu.window.map fun w => { w with openThroughout := false }, conducting := false }
  if s.miu.conducting then reportQuiet .conductingOpen { s.tmn.views with pulseSide := false } s1 else s1

/-- SSC tells MIU its state; MIU keeps it as its supply view (R12). -/
def tellMiu (st : SupplyState) (s : State) : State :=
  let s1 := if s.miu.view = some .opened ∧ st ≠ .opened then miuLeavesOpen s else s
  s1.setMiu { s1.miu with view := some st }

/-- SSC leaves OPEN: the load-side count goes to 0 and an active load side falls (R120). -/
def leaveOpen (s : State) : State :=
  let s1 := s.setSsc { s.ssc with loadCount := 0, loadSide := false }
  if s.ssc.loadSide then reportQuiet .conductingOpen { s.tmn.views with loadSide := false } s1 else s1

/-- SSC enters a state: what it leaves is given up (the load side in OPEN, the warning timer and WARN in WARNING), MIU is told, and STATE_LED follows. -/
def enterState (st : SupplyState) (s : State) : State :=
  let s1 := if s.ssc.state = .opened ∧ st ≠ .opened then leaveOpen s else s
  let s2 := s1.setSsc
    ({ s1.ssc with
        state := st, warn := none, warnOn := false, warnTicks := 0
        stuckRetry := if st = .stuckClosed then s1.ssc.stuckRetry else none } : Ssc).refreshLed
  tellMiu st s2

/-! ### Drive runs (R115) -/

/-- An attempt begins with its reservoir step, which ends at once where RESERVOIR_READY is high (R115). -/
def beginAttempt (dir : Direction) (attempt : Nat) (last : Option FailReason) (ready : Bool) : DriveRun :=
  { dir := dir, attempt := attempt, step := if ready then .pulse else .reservoir, ticks := 0
    lastFail := last, abandoned := false }

/-- A drive run starts with attempt 1. -/
def startRun (dir : Direction) (s : State) : State :=
  s.setSsc { s.ssc with run := some (beginAttempt dir 1 none s.pins.reservoirReady) }

/-- Entry to OPENING: the release waiver is cleared and an opening run starts (R110, R114). -/
def enterOpening (s : State) : State :=
  let s1 := enterState .opening s
  startRun .toOpen (s1.setSsc { s1.ssc with waiver := false })

/-- Entry to CLOSING: the release waiver is cleared and a closing run starts (R114). -/
def enterClosing (s : State) : State :=
  let s1 := enterState .closing s
  startRun .toClose (s1.setSsc { s1.ssc with waiver := false })

/-- Entry to ARMED (R113). -/
def enterArmed (s : State) : State := raiseAlert .supply (enterState .armed s)

/-- OPEN with an empty set goes on to CLOSING under the waiver or an emptying cause of REMOTE, and to ARMED otherwise (R111). -/
def judgeOpen (s : State) : State :=
  if s.ssc.causes.isEmpty then
    if s.ssc.waiver || s.ssc.emptying == some .remote then enterClosing s else enterArmed s
  else s

/-- Entry to OPEN; with `event`, SUPPLY_OPENED is appended, as after an opening run (R111). -/
def enterOpen (event : Bool) (s : State) : State :=
  let s1 := enterState .opened s
  let s2 := if event then appendEvent (.supplyOpened s1.ssc.causes) s1 else s1
  judgeOpen (requestCheckpoint true (raiseAlert .supply s2))

/-- Entry to WARNING: the timer starts at 0 and WARN sounds (R108, R127). -/
def enterWarning (s : State) : State :=
  let s1 := enterState .warning s
  s1.setSsc { s1.ssc with warn := some 0, warnOn := true, warnTicks := 0 }

/-- Entry to DEFERRED (R109). -/
def enterDeferred (s : State) : State := enterState .deferred s

/-- CREDIT alone: DEFERRED under the friendly flag, WARNING without it (R107). -/
def warnOrDefer (s : State) : State := if s.ssc.friendly then enterDeferred s else enterWarning s

/-- CLOSED judges the set (R107). -/
def judgeClosed (s : State) : State :=
  if s.ssc.causes.beyondCredit then enterOpening s
  else if s.ssc.causes.credit then warnOrDefer s
  else s

/-- Entry to CLOSED, which judges the set at once (R107). -/
def enterClosed (s : State) : State :=
  judgeClosed (requestCheckpoint true (raiseAlert .supply (enterState .closed s)))

/-! ### The cause set (R105, R106) -/

/-- The set changed, with the emptying cause (R105), and no reaction. -/
def putCause (k : Cause) (x : Bool) (s : State) : State :=
  let causes := s.ssc.causes.put k x
  let emptying :=
    if x then (if s.ssc.causes.isEmpty then none else s.ssc.emptying)
    else if causes.isEmpty then some k else s.ssc.emptying
  s.setSsc { s.ssc with causes := causes, emptying := emptying }

/-- SSC's reaction to a cause that has joined the set, by its present state. -/
def reactJoin (k : Cause) (s : State) : State :=
  match s.ssc.state with
  | .closed =>
    if k = .credit then (if s.ssc.causes.beyondCredit then s else warnOrDefer s) else enterOpening s
  | .warning => if k = .credit then s else enterOpening s
  | .deferred => if k = .credit then s else enterOpening s
  | .armed => enterOpen false s
  | .opening | .opened | .closing | .stuckClosed | .stuckOpen => s

/-- SSC's reaction to a cause that has left the set, by its present state. -/
def reactLeave (k : Cause) (s : State) : State :=
  match s.ssc.state with
  | .warning => if k = .credit then enterClosed s else s
  | .deferred => if k = .credit then enterClosed s else s
  | .opened => judgeOpen s
  | .closed | .opening | .armed | .closing | .stuckClosed | .stuckOpen => s

/-- An owner tells SSC that its cause is present or absent (R105): nothing where the set already agrees, else the change and, where SSC is live, its reaction. -/
def setCause (k : Cause) (x : Bool) (s : State) : State :=
  if s.ssc.causes.has k = x then s
  else
    let s1 := putCause k x s
    if s.sscLive then (if x then reactJoin k s1 else reactLeave k s1) else s1

/-! ### What CTU and ACE tell SSC -/

/-- CTU tells SSC the friendly flag (R58): WARNING defers, DEFERRED resumes a full warning (R108, R109). -/
def tellFriendly (f : Bool) (s : State) : State :=
  if s.ssc.friendly = f then s
  else
    let s1 := s.setSsc { s.ssc with friendly := f }
    if s.sscLive then
      match s.ssc.state with
      | .warning => if f then enterDeferred s1 else s1
      | .deferred => if f then s1 else enterWarning s1
      | _ => s1
    else s1

/-- ACE tells SSC whether the balance is low (R35). -/
def tellLow (x : Bool) (s : State) : State := s.setSsc ({ s.ssc with low := x } : Ssc).refreshLed

/-- ACE tells SSC whether emergency credit is in use (R40). -/
def tellEmergency (x : Bool) (s : State) : State := s.setSsc ({ s.ssc with emInUse := x } : Ssc).refreshLed

/-! ### The ends of a drive run -/

/-- SWITCH_FAULT becomes active (R117); its occurrence's TAMPER judgement finds SSC in a STUCK state, where the set changes and nothing else (R118, R119). -/
def switchFaultRises (s : State) : State :=
  let v := { s.tmn.views with switchFault := true }
  let s1 := reportQuiet .switchFault v s
  if reportRises .switchFault v s && s1.tamperTold && s1.ssc.causes.tamper != wantsTamper s1.tmn.records then
    putCause .tamper (wantsTamper s1.tmn.records) s1
  else s1

/-- SWITCH_FAULT becomes inactive (R116). -/
def switchFaultFalls (s : State) : State :=
  reportQuiet .switchFault { s.tmn.views with switchFault := false } s

/-- The stuck retry timer starts at 0, on a commissioned part only (R118). -/
def startStuckRetry (s : State) : State :=
  if s.commissioned then s.setSsc { s.ssc with stuckRetry := some 0 } else s

/-- Entry to a STUCK state after a failed run of a direction (R117, R118). -/
def enterStuck (dir : Direction) (s : State) : State :=
  let st := if dir = .toOpen then SupplyState.stuckClosed else SupplyState.stuckOpen
  let s1 := switchFaultRises (enterState st s)
  let s2 := requestCheckpoint true (raiseAlert .supply (appendEvent (.supplyStuck dir) s1))
  if dir = .toOpen then startStuckRetry s2 else s2

/-- A drive run has succeeded (R111, R114, R116, R118, R119). -/
def runSucceeds (dir : Direction) (s : State) : State :=
  let s1 := s.setSsc { s.ssc with run := none }
  let s2 := if s.ssc.state = .stuckClosed ∨ s.ssc.state = .stuckOpen then switchFaultFalls s1 else s1
  match dir with
  | .toOpen => enterOpen true s2
  | .toClose => enterClosed (appendEvent .supplyClosed s2)

/-- A drive run has failed its third attempt (R116 to R119). -/
def runFails (dir : Direction) (s : State) : State :=
  let s1 := s.setSsc { s.ssc with run := none }
  match s.ssc.state with
  | .stuckClosed => startStuckRetry s1
  | .stuckOpen => s1
  | _ => enterStuck dir s1

/-- An attempt has failed with a reason: the next begins at once, or the run has failed (R115). -/
def attemptFails (r : DriveRun) (why : FailReason) (s : State) : State :=
  if r.attempt < 3 then
    s.setSsc { s.ssc with run := some (beginAttempt r.dir (r.attempt + 1) (some why) s.pins.reservoirReady) }
  else runFails r.dir s

end Sys2Proof.Machine
end

