-- ==== Sys2Proof/Machine/TamperCause.lean ====
section
/-! DEFINITION. TMN's judgement of the TAMPER cause (R138), full reports from MIU, SSC and CRU (R135), and the debounced switch conditions (R133). -/

namespace Sys2Proof.Machine

/-- TMN judges TAMPER and tells SSC of a change (R138); in BATTERY and before the end of step 2 of a start the result is held (R146 to R148). -/
def judgeTamper (s : State) : State :=
  if s.tamperTold then setCause .tamper (wantsTamper s.tmn.records) s else s

/-- A report of a source, with the judgement of TAMPER where it made an occurrence (R135, R136 step 7). -/
def report (k : TamperKind) (v : Views) (s : State) : State :=
  if reportRises k v s then judgeTamper (reportQuiet k v s) else reportQuiet k v s

/-- The tamper kind of a switch. -/
def switchKind : Switch → TamperKind
  | .cover => .cover
  | .terminal => .terminal
  | .magnet => .magnet

/-- The debounce of an input. -/
def Tmn.debounce (t : Tmn) : Switch → Debounce
  | .cover => t.cover
  | .terminal => t.terminal
  | .magnet => t.magnet

/-- `t` with the debounce of an input replaced. -/
def Tmn.setDebounce (t : Tmn) (sw : Switch) (d : Debounce) : Tmn :=
  match sw with
  | .cover => { t with cover := d }
  | .terminal => { t with terminal := d }
  | .magnet => { t with magnet := d }

/-- The level of a tamper input's pin. -/
def pinLevel (p : Pins) : Switch → Bool
  | .cover => p.cover
  | .terminal => p.terminal
  | .magnet => p.magnet

/-- `p` with a tamper input at a level. -/
def setPinLevel (p : Pins) (sw : Switch) (x : Bool) : Pins :=
  match sw with
  | .cover => { p with cover := x }
  | .terminal => { p with terminal := x }
  | .magnet => { p with magnet := x }

/-- A new debounced level: high makes the kind's condition active, low makes it inactive (R133). -/
def switchLevel (sw : Switch) (x : Bool) (s : State) : State :=
  if x then judgeTamper (conditionRises (switchKind sw) none s) else conditionFalls (switchKind sw) s

/-- The debounce runs: in STARTUP, RUN, HOLDUP and BATTERY while battery RAM is valid (R134, R171). -/
def State.debounceRuns (s : State) : Bool := s.psv.power != .off && s.psv.bramValid

end Sys2Proof.Machine
end

