-- ==== Sys2Proof/Machine/Account.lean ====
section
/-! DEFINITION. ACE's shared operations (chapter 2): the floor, charges, the judgements after them, top-up, emergency credit and the settings. -/

namespace Sys2Proof.Machine

/-- The floor (R24). -/
def Ace.floor (a : Ace) : Int :=
  match a.em with
  | .inUse taken => -(taken : Int)
  | _ => 0

/-- The balance is low (R35). -/
def Ace.isLow (a : Ace) : Bool := decide (a.c ≤ (a.lc : Int))

/-! ### Judgements -/

/-- ACE judges CREDIT: present exactly while C is at or below the floor (R33). -/
def judgeCredit (s : State) : State := setCause .credit (decide (s.ace.c ≤ s.ace.floor)) s

/-- ACE judges the low balance: SSC is told of a change, and becoming low raises LOW_CREDIT (R35). -/
def judgeLow (s : State) : State :=
  if s.ace.isLow = s.ssc.low then s
  else
    let s1 := tellLow s.ace.isLow s
    if s.ace.isLow then raiseAlert .lowCredit s1 else s1

/-- The emergency state that E, C and Lc give while it is not IN_USE (R40). -/
def Ace.offer (a : Ace) : Emergency :=
  if 0 < a.e ∧ a.c ≤ (a.lc : Int) then .offered else .unavailable

/-- ACE judges the emergency state; entering OFFERED raises EMERGENCY (R40). -/
def judgeEmergency (s : State) : State :=
  match s.ace.em with
  | .inUse _ => s
  | em =>
    let s1 := s.setAce { s.ace with em := s.ace.offer }
    if s.ace.offer = .offered ∧ em = .unavailable then raiseAlert .emergency s1 else s1

/-- The judgements after a charge, in the order of R31. -/
def judgeAccount (s : State) : State := judgeEmergency (judgeLow (judgeCredit s))

/-! ### Charges -/

/-- The account after a charge `q` above 0 (R31, R32, R25). -/
def Ace.charged (a : Ace) (q : Nat) : Ace :=
  if a.floor ≤ a.c - q then
    { a with c := a.c - q, balanceCharges := satAdd Config.totalMax a.balanceCharges q }
  else
    let part := (a.c - a.floor).toNat
    { a with
      c := a.c - part
      balanceCharges := satAdd Config.totalMax a.balanceCharges part
      b := satAdd Config.debtMax a.b (q - part)
      debtCharges := satAdd Config.totalMax a.debtCharges (q - part) }

/-- A charge is taken against the account (R31); a charge of 0 changes nothing. -/
def charge (q : Nat) (s : State) : State :=
  if q = 0 then s else judgeAccount (s.setAce (s.ace.charged q))

/-- An energy register rises by one, rolling over past its greatest value (R27). -/
def rollRegister (x : Nat) : Nat := if x < Config.debtMax then x + 1 else 0

/-- The account as a pulse is counted in band `b` at a rate and pulse constant, before its charge (R26). -/
def Ace.pulsed (a : Ace) (b : Fin 4) (rate p : Nat) : Ace :=
  { a with reg := a.reg.set b (rollRegister a.reg[b]), d := (a.d + rate) % p }

/-- A billed pulse: energy register, energy residue and the charge floor(D / P), at the band CTU reports (R26). An UNCOMMISSIONED part bills none (R46). -/
def billPulse (s : State) : State :=
  match s.comm with
  | none => s
  | some k =>
    let rate := s.ctu.active.rates[s.ctu.band]
    charge ((s.ace.d + rate) / k.p) (s.setAce (s.ace.pulsed s.ctu.band rate k.p))

/-- One quarter's share of the standing charge (R28). -/
def standingCharge (s : State) : State :=
  let total := s.ace.q + s.ctu.active.standing
  charge (total / 96) (s.setAce { s.ace with q := total % 96 })

/-- ACE takes a quarter tick (R28, R29); an UNCOMMISSIONED part ignores it (R46). -/
def aceTick (named : Option Nat) (s : State) : State :=
  if s.commissioned then
    match named with
    | none => standingCharge s
    | some q =>
      if q ≤ s.ace.lastQ then s
      else
        let s1 := standingCharge s
        s1.setAce { s1.ace with lastQ := q }
  else s

/-! ### Top-up (R36, R37, R39) -/

/-- The part of a top-up that recovers debt. -/
def Ace.recovered (a : Ace) (amount : Nat) : Nat := min a.b (amount * a.share / 100)

/-- The prospective balance (R36). -/
def Ace.prospective (a : Ace) (amount : Nat) : Int := a.c + amount - a.recovered amount

/-- The account after a top-up's money has moved, before its judgements (R37, R39, R25). -/
def Ace.credited (a : Ace) (amount : Nat) : Ace :=
  let r := a.recovered amount
  let c := min Config.balanceMax (a.c + (amount - r : Nat))
  { a with
    b := a.b - r
    debtRecovered := satAdd Config.totalMax a.debtRecovered r
    c := c
    creditApplied := satAdd Config.totalMax a.creditApplied (c - a.c).toNat }

/-- IN_USE ends where C is at 0 or above (R37, R42); the state is then judged afresh. -/
def endAdvance (s : State) : State :=
  match s.ace.em with
  | .inUse _ =>
    if 0 ≤ s.ace.c then tellEmergency false (s.setAce { s.ace with em := .unavailable }) else s
  | _ => s

/-- A top-up is applied (R37). -/
def topUp (amount : Nat) (s : State) : State :=
  judgeAccount (endAdvance (s.setAce (s.ace.credited amount)))

/-! ### Emergency credit (R41) -/

/-- SSC asks ACE to take emergency credit: in OFFERED the advance is taken and CREDIT judged against the new floor. -/
def takeEmergency (s : State) : State :=
  match s.ace.em with
  | .offered => judgeCredit (tellEmergency true (s.setAce { s.ace with em := .inUse s.ace.e }))
  | _ => s

/-! ### Settings (R43, R44) -/

/-- A LIMIT code's new ceiling. -/
def setCmax (units : Nat) (s : State) : State := s.setAce { s.ace with cmax := units * 10000 }

/-- A LIMIT code's new emergency amount. -/
def setEmergency (units : Nat) (s : State) : State :=
  judgeEmergency (s.setAce { s.ace with e := units * 10000 })

/-- A LIMIT code's new low-credit threshold. -/
def setLowThreshold (units : Nat) (s : State) : State :=
  judgeEmergency (judgeLow (s.setAce { s.ace with lc := units * 10000 }))

/-- A DEBT code's new debt and share. -/
def setDebt (share units : Nat) (s : State) : State :=
  s.setAce { s.ace with b := units * 10000, share := share }

end Sys2Proof.Machine
end

