-- ==== Sys2Proof/Machine/Calendar.lean ====
section
/-! DEFINITION. CTU's shared operations (chapter 3): the calendar's derived values, bands and friendly windows, the judgement of both, activation, quarter ticks, trims and the pending tariff's edits. -/

namespace Sys2Proof.Machine

/-! ### Derived values (R51) -/

/-- The day number. -/
def dayOf (count : Nat) : Nat := count / 86400

/-- The quarter of the day, 0 to 95. -/
def quarterOf (count : Nat) : Nat := count % 86400 / 900

/-- The weekday, Monday 0. -/
def weekdayOf (day : Nat) : Nat := (day + 5) % 7

/-- The absolute quarter. -/
def absQuarterOf (count : Nat) : Nat := dayOf count * 96 + quarterOf count

/-! ### Bands and friendly windows (R57, R59) -/

/-- A day listed in a special-day slot. -/
def Tariff.isSpecial (t : Tariff) (day : Nat) : Bool := t.specials.toList.contains (some day)

/-- The profile of a day: 1 on a rest day. -/
def Tariff.profileOf (t : Tariff) (day : Nat) : Nat :=
  if weekdayOf day = 5 ∨ weekdayOf day = 6 ∨ t.isSpecial day then 1 else 0

/-- A profile's switch points, slot 0 first. -/
def Tariff.points (t : Tariff) (profile : Nat) : List SwitchPoint :=
  (t.switches.toList.drop (profile * 6)).take 6

/-- A profile's friendly windows. -/
def Tariff.friendlyWindows (t : Tariff) (profile : Nat) : List FriendlyWindow :=
  (t.windows.toList.drop (profile * 2)).take 2

/-- Of the switch points with a quarter at or before `x`, the quarter and band of the one with the greatest quarter; of several with that quarter, the highest-numbered slot's. -/
def latestPoint (x : Nat) (l : List SwitchPoint) : Option (Nat × Fin 4) :=
  l.foldl (fun best p =>
    match p.quarter with
    | none => best
    | some q =>
      if q ≤ x then
        match best with
        | none => some (q, p.band)
        | some (bq, bb) => if bq ≤ q then some (q, p.band) else some (bq, bb)
      else best) none

/-- The band of a quarter by the profile of its day (R57). -/
def Tariff.bandAt (t : Tariff) (day quarter : Nat) : Fin 4 :=
  let l := t.points (t.profileOf day)
  match latestPoint quarter l with
  | some (_, b) => b
  | none =>
    match latestPoint 95 l with
    | some (_, b) => b
    | none => 0

/-- A friendly window covers a quarter: empty where start is end, wrapping where start is above end (R59). -/
def FriendlyWindow.covers (w : FriendlyWindow) (x : Nat) : Bool :=
  if w.start < w.stop then decide (w.start ≤ x) && decide (x < w.stop)
  else if w.stop < w.start then decide (w.start ≤ x) || decide (x < w.stop)
  else false

/-- The friendly flag of a quarter (R59). -/
def Tariff.friendlyAt (t : Tariff) (day quarter : Nat) : Bool :=
  t.isSpecial day || (t.friendlyWindows (t.profileOf day)).any (·.covers quarter)

/-- The band the clock and the active tariff give (R58). -/
def Ctu.bandNow (c : Ctu) : Fin 4 :=
  if c.clock.valid then c.active.bandAt (dayOf c.clock.count) (quarterOf c.clock.count) else 0

/-- The friendly flag the clock and the active tariff give (R58). -/
def Ctu.friendlyNow (c : Ctu) : Bool :=
  c.clock.valid && c.active.friendlyAt (dayOf c.clock.count) (quarterOf c.clock.count)

/-- CTU judges the band and the friendly flag, and tells SSC a changed flag (R58). -/
def judgeBand (s : State) : State :=
  let f := s.ctu.friendlyNow
  let s1 := s.setCtu { s.ctu with band := s.ctu.bandNow, friendly := f }
  if f = s.ctu.friendly then s1 else tellFriendly f s1

/-! ### Activation (R68) -/

/-- A pending tariff replaces the active one whole. -/
def activateTariff (t : Tariff) (s : State) : State :=
  let s1 := judgeBand (s.setCtu { s.ctu with active := t, pending := .none })
  requestCheckpoint true (raiseAlert .tariff s1)

/-- An activation at a tick; in STARTUP it sets the activation-in-start mark in place of the alert (R68). -/
def activateAtTick (t : Tariff) (s : State) : State :=
  let s1 := activateTariff t s
  if s1.psv.power.mainPowered && !s1.psv.power.running then s1.setCtu { s1.ctu with startMark := true } else s1

/-- A scheduled target is due at a tick (R62). -/
def Target.dueAt (named : Option Nat) : Target → Bool
  | .nextTick => true
  | .quarter q =>
    match named with
    | some n => decide (q ≤ n)
    | none => false

/-- A scheduled activation whose target is an absolute quarter at or before `q` is carried out (R53, R71). -/
def activateIfReached (q : Nat) (s : State) : State :=
  match s.ctu.pending with
  | .scheduled t (.quarter x) => if x ≤ q then activateTariff t s else s
  | _ => s

/-! ### Quarter ticks (R60 to R62) -/

/-- The trip day resets (R124). -/
def resetTripDay (s : State) : State :=
  let s1 := s.setSsc { s.ssc with trips := 0, tripDay := none }
  if s.ssc.restore.isNone then setCause .overload false s1 else s1

/-- SSC takes a quarter tick: the new-day mark resets the trip day (R62, R124). -/
def sscTick (named : Option Nat) (s : State) : State :=
  match named with
  | some q => if q % 96 = 0 then resetTripDay s else s
  | none => s

/-- CTU tests the activation target at a tick (R62, first). -/
def tickActivates (named : Option Nat) (s : State) : State :=
  match s.ctu.pending with
  | .scheduled t target => if target.dueAt named then activateAtTick t s else s
  | _ => s

/-- A quarter tick is handled: the activation, then ACE, SSC and STC (R62). -/
def handleTick (named : Option Nat) (s : State) : State :=
  requestCheckpoint false (sscTick named (aceTick named (tickActivates named s)))

/-- CTU issues named ticks: RUN, HOLDUP, and STARTUP from step 3 on (R60). -/
def State.ticksIssued (s : State) : Bool := s.psv.power.mainPowered && !(s.psv.power.startupUpTo 2)

/-- CTU issues the tick of the next quarter above the last charged one, up to the clock's, where none is on its way (R60). -/
def issueTick (s : State) : State :=
  if s.ticksIssued && s.ctu.clock.valid && s.ctu.issued.isNone &&
      decide (s.ace.lastQ < absQuarterOf s.ctu.clock.count) then
    s.setCtu { s.ctu with issued := some (s.ace.lastQ + 1) }
  else s

/-- The tick on its way is taken, and the next one due is issued (R60). -/
def takeIssuedTick (s : State) : State :=
  match s.ctu.issued with
  | some q => issueTick (handleTick (some q) (s.setCtu { s.ctu with issued := none }))
  | none => s

/-- Catch-up: up to `n` issued ticks taken in ascending order (R30). -/
def catchUp : Nat → State → State
  | 0, s => s
  | n + 1, s => catchUp n (takeIssuedTick s)

/-! ### Setting the clock (R53, R69) -/

/-- The clock set VALID at a count. The second now running starts afresh where the clock was INVALID and runs on where it was VALID (log entry 6). -/
def Clock.set (c : Clock) (count : Nat) : Clock :=
  { count := count, valid := true, sub := if c.valid then c.sub else 0 }

/-- The effect of a CLOCK code on the clock, the last charged quarter, the band, and a due activation (R53). -/
def setClock (count : Nat) (s : State) : State :=
  let s1 := s.setCtu { s.ctu with clock := s.ctu.clock.set count, elapsed := none }
  let s2 := s1.setAce { s1.ace with lastQ := absQuarterOf count }
  activateIfReached (absQuarterOf count) (judgeBand s2)

/-! ### Trims (R54) -/

/-- The trim record brought up to date for a day. -/
def trimRecordFor (day : Nat) : Option TrimRecord → TrimRecord
  | none => { day := day, advance := 0, retard := 0 }
  | some r => if r.day < day then { day := day, advance := 0, retard := 0 } else r

/-- The amount a trim of `a` seconds applies, with the record before it and the count (R54). -/
def trimApplied (r : TrimRecord) (count : Nat) (a : Int) : Int :=
  if 0 ≤ a then min (min a ((Config.trimAllowance : Int) - r.advance)) ((Config.clockMax : Int) - count)
  else -(min (min (-a) ((Config.trimAllowance : Int) - r.retard)) (count : Int))

/-- The record after an applied amount (R54). -/
def TrimRecord.used (r : TrimRecord) (applied : Int) : TrimRecord :=
  if 0 ≤ applied then { r with advance := r.advance + applied.toNat }
  else { r with retard := r.retard + (-applied).toNat }

/-- A trim: the applied amount, and the part after it (R54, R55). -/
def trimClock (a : Int) (s : State) : Int × State :=
  if s.ctu.clock.valid ∧ a ≠ 0 then
    let r := trimRecordFor (dayOf s.ctu.clock.count) s.ctu.trim
    let x := trimApplied r s.ctu.clock.count a
    let s1 := s.setCtu
      { s.ctu with
        trim := some (r.used x)
        clock := { s.ctu.clock with count := ((s.ctu.clock.count : Int) + x).toNat } }
    (x, issueTick (judgeBand s1))
  else (0, s)

/-! ### The pending tariff (R63 to R66) -/

/-- The outcomes of an edit, in the order of section 10.2. -/
inductive EditOutcome where
  | copyEdited
  | edited
  | editedUnscheduled
  deriving DecidableEq, Repr

/-- An edit applied to the pending tariff by its state (R63). -/
def editPending (edit : Tariff → Tariff) (c : Ctu) : EditOutcome × Ctu :=
  match c.pending with
  | .none => (.copyEdited, { c with pending := .editing (edit c.active) })
  | .editing t => (.edited, { c with pending := .editing (edit t) })
  | .scheduled t _ => (.editedUnscheduled, { c with pending := .editing (edit t) })

/-- An edit outcome's byte. -/
def EditOutcome.code : EditOutcome → Nat
  | .copyEdited => 0
  | .edited => 1
  | .editedUnscheduled => 2

/-- The part of the tariff that an editing class writes (R64). -/
def tariffEdit : CodeAction → Tariff → Tariff
  | .rate b x => fun t => { t with rates := t.rates.set b x }
  | .switchPoint i p => fun t => { t with switches := t.switches.set i p }
  | .special i d => fun t => { t with specials := t.specials.set i d }
  | .friendly i w => fun t => { t with windows := t.windows.set i w }
  | .standing x => fun t => { t with standing := x }
  | _ => fun t => t

/-- The target an ACTIVATE code works out from its day and its recorded clock (R66). -/
def targetOf (day : Nat) (recorded : Stamp) : Target :=
  if day = 0 then .nextTick
  else
    match recorded with
    | .secs c => if day ≤ dayOf c then .nextTick else .quarter (day * 96)
    | .clockInvalid => .quarter (day * 96)

/-- The outcomes of ACTIVATE, in the order of section 10.2. -/
inductive ActivateOutcome where
  | scheduledNext
  | scheduledDay
  | nothingPending
  deriving DecidableEq, Repr

/-- An activate outcome's byte. -/
def ActivateOutcome.code : ActivateOutcome → Nat
  | .scheduledNext => 0
  | .scheduledDay => 1
  | .nothingPending => 2

/-- ACTIVATE applied by the pending state (R66). -/
def schedulePending (target : Target) (c : Ctu) : ActivateOutcome × Ctu :=
  let outcome := if target = .nextTick then ActivateOutcome.scheduledNext else .scheduledDay
  match c.pending with
  | .none => (.nothingPending, c)
  | .editing t => (outcome, { c with pending := .scheduled t target })
  | .scheduled t _ => (outcome, { c with pending := .scheduled t target })

/-- The activation target as four bytes: FFFFFFFF hex for "next tick" and for none (R206). -/
def targetBytes : PendingTariff → List Byte
  | .scheduled _ (.quarter q) => be 4 q
  | _ => be 4 4294967295

end Sys2Proof.Machine
end

