-- ==== Sys2Proof/Machine/Metering.lean ====
section
/-! DEFINITION. MIU's shared operations (chapter 1): period bookkeeping, demand, flashes, the over-limit runs and the overload trip, and the comparison window's judgements. -/

namespace Sys2Proof.Machine

/-! ### Channels -/

/-- A channel of MIU. -/
def Miu.channel (m : Miu) : ChannelId → Channel
  | .line => m.line
  | .ret => m.ret

/-- `m` with a channel replaced. -/
def Miu.setChannel (m : Miu) (ch : ChannelId) (x : Channel) : Miu :=
  match ch with
  | .line => { m with line := x }
  | .ret => { m with ret := x }

/-- The level of a channel's pulse pin set. -/
def setPulsePin (p : Pins) (ch : ChannelId) (x : Bool) : Pins :=
  match ch with
  | .line => { p with linePulse := x }
  | .ret => { p with returnPulse := x }

/-- "No recent pulse": the last acceptance time and the last period are absent and the over-limit run is 0 (R2). -/
def Channel.quiet (c : Channel) : Channel := { c with lastAt := none, period := none, overRun := 0 }

/-- The period bookkeeping of an acceptance at `now` (R2). A channel whose quiet spell has passed 4,194,303 ticks has no last acceptance time. -/
def Channel.accepted (c : Channel) (now : Nat) : Channel :=
  let c := match c.lastAt with
    | some t => if Config.quietTicks < now - t then c.quiet else c
    | none => c
  { c with
    period := match c.lastAt with
      | some t => some (now - t)
      | none => c.period
    lastAt := some now }

/-- The acceptance sample of a channel's detector: the count reaches 4 and the channel is disarmed (R1). -/
def Detector.fired (d : Detector) (count : Nat) : Detector :=
  { d with armed := false, count := count, since := 0 }

/-- A low or released sample: the detector is armed and its count is 0 (R1, R121, R184). -/
def Detector.released (d : Detector) : Detector := { d with armed := true, count := 0, since := 0 }

/-! ### Demand (R14, R15) -/

/-- floor(3,686,400,000 / (P × t)), saturating at 65,535. -/
def demandOf (p t : Nat) : Nat := min 65535 (3686400000 / (p * t))

/-- A channel's demand at an instant. -/
def Channel.demand (c : Channel) (p now : Nat) : Nat :=
  match c.lastAt, c.period with
  | some t, some k => demandOf p (max k (now - t))
  | _, _ => 0

/-- The reported demand: the larger of the two; 0 on an UNCOMMISSIONED part. -/
def reportedDemand (s : State) : Nat :=
  match s.comm with
  | some k => max (s.miu.line.demand k.p s.now) (s.miu.ret.demand k.p s.now)
  | none => 0

/-! ### Flashes and held pulses -/

/-- One PULSE_LED flash is queued; past 255 it is lost (R6). -/
def queueFlash (s : State) : State :=
  s.setMiu { s.miu with flashPending := satAdd 255 s.miu.flashPending 1 }

/-- `n` pulses are billed one by one, each queueing a flash (R8, R20). -/
def billPulses : Nat → State → State
  | 0, s => s
  | n + 1, s => billPulses n (queueFlash (billPulse s))

/-- A pulse accepted in STARTUP is held (R19). -/
def holdPulse (ch : ChannelId) (s : State) : State :=
  let c := s.miu.channel ch
  s.setMiu (s.miu.setChannel ch { c with held := satAdd 65535 c.held 1 })

/-! ### Overload (R16, R17, R123) -/

/-- The over-limit run after a pulse: it rises where a new period was measured whose demand is above W_lim, and returns to 0 otherwise (R16). -/
def overRunAfter (wLim p run : Nat) (measured : Option Nat) : Nat :=
  match measured with
  | none => 0
  | some t => if wLim = 0 then 0 else if wLim < demandOf p t then run + 1 else 0

/-- SSC takes an OVERLOAD raise: ignored where present, else the trip is counted, the timers start, and SSC reacts (R123). -/
def overloadTrip (s : State) : State :=
  if s.ssc.causes.overload then s
  else
    setCause .overload true (s.setSsc
      { s.ssc with
        trips := satAdd 3 s.ssc.trips 1
        restore := some 0
        tripDay := if s.ssc.trips = 0 then some 0 else s.ssc.tripDay })

/-- The supply views in which MIU raises OVERLOAD (R17). -/
def supplyOn : Option SupplyState → Bool
  | some .closed => true
  | some .warning => true
  | some .deferred => true
  | _ => false

/-- A run that reaches 4 returns both to 0 and raises OVERLOAD where the supply view allows (R17). -/
def raiseOverload (s : State) : State :=
  let s1 := s.setMiu
    { s.miu with line := { s.miu.line with overRun := 0 }, ret := { s.miu.ret with overRun := 0 } }
  if supplyOn s.miu.view then overloadTrip s1 else s1

/-- A pulse moves its channel's over-limit run (R16, R17); `measured` is the period this pulse measured. -/
def updateOverRun (ch : ChannelId) (measured : Option Nat) (p : Nat) (s : State) : State :=
  let c := s.miu.channel ch
  let run := overRunAfter s.miu.wLim p c.overRun measured
  if run = 4 then raiseOverload s else s.setMiu (s.miu.setChannel ch { c with overRun := run })

/-- The period that an acceptance at `now` measures (R2). -/
def Channel.measures (c : Channel) (now : Nat) : Option Nat :=
  match c.lastAt with
  | some t => if Config.quietTicks < now - t then none else some (now - t)
  | none => none

/-! ### The comparison window (R7 to R13) -/

/-- A window opens at an instant with given counts, its flag from the supply view (R7, R12, R20). -/
def openWindow (start nL nR : Nat) (s : State) : State :=
  s.setMiu { s.miu with
    window := some { start := start, nL := nL, nR := nR, rev := 0
                     openThroughout := s.miu.view == some .opened } }

/-- The threshold of the imbalance judgement (R9). -/
def imbalanceThreshold (nL nR : Nat) : Nat := max 4 (max nL nR / 8)

/-- A window is imbalanced (R9). -/
def isImbalanced (nL nR : Nat) : Bool := decide (imbalanceThreshold nL nR < max nL nR - min nL nR)

/-- The imbalance judgement: the runs move, and IMBALANCE rises with its side or falls at a run's reaching 3 (R9, R10). -/
def judgeImbalance (nL nR : Nat) (s : State) : State :=
  let m := s.miu
  if isImbalanced nL nR then
    let run := satAdd 3 m.imbRun 1
    let rises := m.imbalance.isNone && run == 3 && m.imbRun != 3
    let side := if nR < nL then Side.line else Side.ret
    let s1 := s.setMiu { m with
      imbRun := run, balRun := 0, imbalance := if rises then some side else m.imbalance }
    if rises then report .imbalance { s.tmn.views with imbalance := some side } s1 else s1
  else
    let run := satAdd 3 m.balRun 1
    let falls := m.imbalance.isSome && run == 3 && m.balRun != 3
    let s1 := s.setMiu { m with
      balRun := run, imbRun := 0, imbalance := if falls then none else m.imbalance }
    if falls then report .imbalance { s.tmn.views with imbalance := none } s1 else s1

/-- The reverse judgement (R11). -/
def judgeReverse (rev : Nat) (s : State) : State :=
  if 3 ≤ rev ∧ s.miu.reverse = false then
    report .reverse { s.tmn.views with reverse := true } (s.setMiu { s.miu with reverse := true })
  else if rev = 0 ∧ s.miu.reverse = true then
    report .reverse { s.tmn.views with reverse := false } (s.setMiu { s.miu with reverse := false })
  else s

/-- The pulse side of CONDUCTING_OPEN, judged only where the window's open-throughout flag is set (R13). -/
def judgeConducting (total : Nat) (s : State) : State :=
  let flag := match s.miu.window with
    | some w => w.openThroughout
    | none => false
  if flag then
    let now := decide (2 < total)
    if now = s.miu.conducting then s
    else
      report .conductingOpen { s.tmn.views with pulseSide := now } (s.setMiu { s.miu with conducting := now })
  else s

/-- The expiry of a window: surplus, imbalance, reverse, conducting, and the next window from the expiry instant (R8). -/
def expireWindow (w : Window) (s : State) : State :=
  let s1 := billPulses (w.nR - w.nL) s
  let s2 := judgeImbalance w.nL w.nR s1
  let s3 := judgeReverse w.rev s2
  let s4 := judgeConducting (w.nL + w.nR) s3
  openWindow (w.start + Config.minuteTicks) 0 0 s4

/-- MIU as it begins work at a start, with holding counts kept or 0 (R19, R22). A pulse input stands at the level last told: no command tells a rise in BATTERY, and a channel whose input rose there begins armed (DESIGN CHOICE, log entry 37). -/
def Miu.begun (pins : Pins) (heldLine heldRet : Nat) : Miu :=
  { Miu.blank with
    line := { Channel.blank with det := { Detector.disarmed with armed := !pins.linePulse }, held := heldLine }
    ret := { Channel.blank with det := { Detector.disarmed with armed := !pins.returnPulse }, held := heldRet } }

end Sys2Proof.Machine
end

