-- ==== Sys2Proof/Machine/Store.lean ====
section
/-! DEFINITION. STC's shared operations (chapter 7): slot choice, store health, capture, the two kinds of completion, and the code replies that a journal write's end hands to LKP. -/

namespace Sys2Proof.Machine

/-! ### Code outcomes (R73, section 10.2) -/

/-- The outcomes of a code. -/
inductive CodeOutcome where
  | accepted
  | notReady
  | notCommissioned
  | busy
  | locked
  | format
  | check
  | cls
  | used
  | stale
  | value
  | limit
  | empty
  | store
  deriving DecidableEq, Repr

/-- An outcome's byte (section 10.2). -/
def CodeOutcome.code : CodeOutcome → Nat
  | .accepted => 0
  | .notReady => 1
  | .notCommissioned => 2
  | .busy => 3
  | .locked => 4
  | .format => 5
  | .check => 6
  | .cls => 7
  | .used => 8
  | .stale => 9
  | .value => 10
  | .limit => 11
  | .empty => 12
  | .store => 13

/-- The reply status that follows from an outcome (R73). -/
def CodeOutcome.status : CodeOutcome → Status
  | .accepted => .ok
  | .notReady => .notReady
  | .busy => .busy
  | _ => .refused

/-- A SUBMIT reply: the outcome's byte and what follows it (section 10.4). -/
def submitReply (o : CodeOutcome) (rest : List Byte) : Reply :=
  { status := o.status, type := 3, payload := BitVec.ofNat 8 o.code :: rest }

/-- A class and a sequence as a SUBMIT reply carries them. -/
def classSeqBytes (cls seq : Nat) : List Byte := be 1 cls ++ be 2 seq

/-- CRU hands back the reply of the SUBMIT in service, which is then answered (R191). -/
def answerSubmit (r : Reply) (s : State) : State :=
  let s1 := pushReply r s
  s1.setLkp { s1.lkp with inService := none }

/-- The code in flight is dropped with a reply and no other trace (R93, R94). -/
def dropCode (r : Reply) (s : State) : State := answerSubmit r (s.setCru { s.cru with inFlight := none })

/-! ### Slots -/

/-- A slot is marked bad. -/
def Slot.isBad {α : Type} : Slot α → Bool
  | .bad => true
  | _ => false

/-- The places of a ring of `n`, from `start` round. -/
def ring (n start : Nat) : List Nat := (List.range n).map fun i => (start + i) % n

/-- A journal slot that a new entry may take: not bad, and holding no unfolded entry (R151). -/
def Stc.journalFree (x : Stc) (i : Nat) : Bool :=
  match x.journal.toList.getD i .bad with
  | .bad => false
  | .holding e => !(x.unfolded.contains e.number)
  | _ => true

/-- The slot of the next journal write: the first free one after the newest journal slot, round the ring (R151). -/
def Stc.journalSlot (x : Stc) : Option Nat :=
  (ring 8 (match x.newestJournal with
    | some k => k + 1
    | none => 0)).find? x.journalFree

/-- The journal is full: every slot that is not bad holds an unfolded entry (R152). -/
def Stc.journalFull (x : Stc) : Bool := !((List.range 8).any x.journalFree)

/-- A checkpoint slot that may be written: not bad and not the newest checkpoint's (R154). -/
def Stc.checkpointFree (x : Stc) (i : Nat) : Bool :=
  !(x.checkpoints.toList.getD i .bad).isBad && (x.newest.map (·.slot) != some i)

/-- The slot of the next checkpoint write (R154). -/
def Stc.checkpointSlot (x : Stc) : Option Nat :=
  (ring 16 (match x.newest with
    | some k => k.slot + 1
    | none => 0)).find? x.checkpointFree

/-- The number of slots of an area not marked bad. -/
def goodSlots {α : Type} (l : List (Slot α)) : Nat := l.countP fun x => !x.isBad

/-- Store health from the good slots of each area (R160). -/
def healthOf (goodCheckpoints goodJournal : Nat) : StoreHealth :=
  if goodCheckpoints < 4 ∨ goodJournal < 4 then .failed
  else if goodCheckpoints = 16 ∧ goodJournal = 8 then .good
  else .degraded

/-- STC judges store health afresh (R160). -/
def Stc.judged (x : Stc) : Stc :=
  { x with health := healthOf (goodSlots x.checkpoints.toList) (goodSlots x.journal.toList) }

/-- A job's slot written with a record or a mark. -/
def Stc.putSlot (x : Stc) (job : WriteJob) (slot : Nat) (j : Slot JournalEntry) (c : Slot Checkpoint) : Stc :=
  match job with
  | .journal _ => { x with journal := x.journal.setIfInBounds slot j }
  | .checkpoint _ => { x with checkpoints := x.checkpoints.setIfInBounds slot c }
  | .save _ => { x with checkpoints := x.checkpoints.setIfInBounds slot c }

/-- A write starts in a slot: what the slot held is gone, and until the write ends it reads as torn (R151, R162). -/
def Stc.started (x : Stc) (job : WriteJob) (slot : Nat) (second : Bool) : Stc :=
  { x.putSlot job slot .torn .torn with write := some { slot := slot, second := second, job := job } }

/-- The slot a job may take (R151, R154). -/
def Stc.slotFor (x : Stc) : WriteJob → Option Nat
  | .journal _ => x.journalSlot
  | _ => x.checkpointSlot

/-- The slot holds the job's record whole. -/
def Stc.written (x : Stc) (job : WriteJob) (slot : Nat) : Stc :=
  match job with
  | .journal e => { x with journal := x.journal.setIfInBounds slot (.holding e) }
  | .checkpoint c => { x with checkpoints := x.checkpoints.setIfInBounds slot (.holding c) }
  | .save c => { x with checkpoints := x.checkpoints.setIfInBounds slot (.holding c) }

/-- A write in flight is cut off by a loss of power: the slot is torn, or whole where the record had already been written good (R94, R162). -/
def cutWrite (written : Bool) (s : State) : State :=
  match s.stc.write with
  | some w =>
    s.setStc { (if written then s.stc.written w.job w.slot else s.stc) with write := none }
  | none => s

/-! ### Capture (R153, section 7.3) -/

/-- The content captured when a checkpoint write starts. The last folded number is the journal number of the newest entry written good, so that every unfolded entry is folded. -/
def capture (k : Commission) (s : State) : Checkpoint :=
  { number := s.stc.nextCheckpoint, folded := s.stc.newestNumber, marker := true, comm := k
    ace := s.ace, wLim := s.miu.wLim, active := s.ctu.active, pendingTariff := s.ctu.pending
    key := s.cru.key, staged := s.cru.staged, h := s.cru.h, redeemed := s.cru.redeemed
    runCount := match s.cru.run with
      | some r => r.count
      | none => 0
    runAge := match s.cru.run with
      | some r => ((s.now : Int) - r.start).toNat
      | none => 0
    lockLeft := s.cru.lockEnd.map (· - s.now)
    supply := s.ssc.state, causes := s.ssc.causes, emptying := s.ssc.emptying, waiver := s.ssc.waiver
    trips := s.ssc.trips, records := s.tmn.records, history := s.tmn.history }

/-! ### Completions -/

/-- A checkpoint completes good: it becomes the newest and folds the journal (R152, R154). -/
def checkpointGood (slot : Nat) (c : Checkpoint) (s : State) : State :=
  s.setStc
    { s.stc.written (.checkpoint c) slot with
      newest := some { slot := slot, number := c.number, folded := c.folded }
      nextCheckpoint := succNumber c.number
      unfolded := s.stc.unfolded.filter (c.folded < ·)
      write := none }

/-- A journal write completes good: its entry is unfolded and its slot the newest; at 4 or more unfolded entries STC places an URGENT request (R151, R152). -/
def journalGood (slot : Nat) (e : JournalEntry) (s : State) : State :=
  let s1 := s.setStc
    { s.stc.written (.journal e) slot with
      newestJournal := some slot
      newestNumber := e.number
      nextJournal := succNumber e.number
      unfolded := s.stc.unfolded ++ [e.number]
      write := none }
  if 4 ≤ s1.stc.unfolded.length then requestCheckpoint true s1 else s1

/-- The code of a failed journal write is refused STORE (R93). -/
def refuseStore (e : JournalEntry) (s : State) : State :=
  dropCode (submitReply .store (classSeqBytes e.cls e.seq)) s

end Sys2Proof.Machine
end

