-- ==== Sys2Proof/Machine/Power.lean ====
section
/-! DEFINITION. PSV's transitions (chapter 8): entering HOLDUP and leaving it, BATTERY, OFF, the entry to STARTUP, and STC's arbiter, whose failed SAVE leaves HOLDUP too. -/

namespace Sys2Proof.Machine

/-- `s` in another power state. -/
def setPower (p : Power) (s : State) : State := s.setPsv { s.psv with power := p }

/-- The working state of ACE, CTU, CRU and SSC is gone until step 2 of the next start: each stands at its factory values, which nothing sees (R49, R130, R176). The clock and the trim record are battery RAM's and stay. -/
def blankBlocks (s : State) : State :=
  let s1 := s.setAce .factory
  let s2 := s1.setCtu { Ctu.factory with clock := s.ctu.clock, trim := s.ctu.trim }
  let s3 := s2.setCru .factory
  s3.setSsc .factory

/-- STC keeps only its slots through a loss of power (section 7.1). -/
def Stc.unpowered (x : Stc) : Stc :=
  { Stc.factory with journal := x.journal, checkpoints := x.checkpoints }

/-- TMN's source views go inactive: working state, begun afresh at a start (section 6.1, R149). -/
def clearViews (s : State) : State := s.setTmn { s.tmn with views := .inactive }

/-- Battery RAM that is not valid keeps nothing (R171, R183). -/
def dropInvalidRam (s : State) : State :=
  if s.psv.bramValid then s
  else
    let s1 := s.setTmn .factory
    s1.setCtu { s1.ctu with clock := .invalid, trim := none }

/-- Entry to BATTERY: every block powered from the main supply stops where it stands (R174, R176, R183). -/
def enterBattery (s : State) : State :=
  let s1 := blankBlocks (setPower .battery s)
  let s2 := (s1.setMiu .blank).setStc s1.stc.unpowered
  dropInvalidRam (clearViews (s2.setLkp .blank))

/-- Entry to OFF: battery RAM becomes invalid and everything in it is lost (R171). -/
def enterOff (s : State) : State :=
  let s1 := s.setPsv { power := .off, bramValid := false, stable := 0, reset := .disarmed, applied := 0 }
  let s2 := (blankBlocks s1).setCtu .factory
  let s3 := (s2.setMiu .blank).setStc s2.stc.unpowered
  ((s3.setTmn .factory).setLkp .blank).setComm none

/-- BATTERY if VBAT holds the battery domain, OFF if it does not (R174, R176, R183). -/
def loseMains (s : State) : State := if s.pins.vbat then enterBattery s else enterOff s

/-- Entry to STARTUP at step 1 (R178): the timebase starts, the alert set is emptied and the assembler hunts, MIU begins with the given holding counts and reports its conditions inactive. The replies in the outbox stay (R192). -/
def beginStartup (kind : StartKind) (stable heldLine heldRet : Nat) (s : State) : State :=
  let s1 := s.setPsv { s.psv with power := .startup 1 kind, stable := stable, reset := .disarmed }
  let s2 := (blankBlocks s1).setNow 0
  let s3 := s2.setMiu (Miu.begun s2.pins heldLine heldRet)
  clearViews (s3.setLkp { Lkp.blank with outbox := s3.lkp.outbox })

/-- PSV leaves HOLDUP once the save has ended (R174): the window, the drive run, the elapsed-tick timer, the lockout and late requests are given up with the working state. -/
def leaveHoldup (s : State) : State :=
  if s.pins.mainsOk then (beginStartup .warm 0 0 0 s).setStc s.stc.unpowered else loseMains s

/-- CRU withdraws a JOURNAL request that still waits: its code is replied NOT_READY (R94). -/
def withdrawJournal (s : State) : State :=
  match s.stc.journalWaiting with
  | some _ =>
    let s1 := s.setStc { s.stc with journalWaiting := none }
    dropCode (submitReply .notReady (notReadyPayload s1)) s1
  | none => s

/-- Entry to HOLDUP from RUN (R172, R161): POWER_DOWN, the waiting requests, the SAVE. An UNCOMMISSIONED part saves nothing and leaves at once (R186). -/
def enterHoldup (s : State) : State :=
  let s1 := setPower .holdup s
  if s1.commissioned then
    let s2 := withdrawJournal (appendEvent .powerDown s1)
    s2.setStc { s2.stc with checkpointWaiting := none, saveWaiting := some s2.now }
  else leaveHoldup s1

/-- MAINS_OK falls in STARTUP (R183): no save, and a write in flight is cut off. -/
def failInStartup (written : Bool) (s : State) : State := loseMains (cutWrite written s)

/-- MAINS_OK at a level. -/
def setMainsPin (x : Bool) (s : State) : State :=
  let s1 := s.setPins { s.pins with mainsOk := x }
  if x then s1 else s1.setPsv { s1.psv with stable := 0 }

/-- MAINS_OK falls, in whatever power state (R172, R173, R175, R183). -/
def mainsFalls (written : Bool) (s : State) : State :=
  let s1 := setMainsPin false s
  match s1.psv.power with
  | .run => enterHoldup s1
  | .startup _ _ => failInStartup written s1
  | .off | .holdup | .battery => s1

/-- A RESET taken in STARTUP begins the steps again (R185): a write in flight goes on, waiting requests are dropped, a coil pulse finishes, the holding counts stay. -/
def restartSteps (kind : StartKind) (s : State) : State :=
  let pulse := match s.ssc.run with
    | some r => if r.step = .pulse then some { r with abandoned := true } else none
    | none => none
  let s1 := beginStartup kind 0 s.miu.line.held s.miu.ret.held s
  let s2 := s1.setSsc { s1.ssc with run := pulse }
  s2.setStc { s2.stc with saveWaiting := none, journalWaiting := none, checkpointWaiting := none }

/-! ### The arbiter (R157) -/

/-- The save has ended (R174). -/
def saveEnds (s : State) : State := leaveHoldup s

/-- A failed SAVE: the STORE alert, and PSV is told (R159). -/
def saveFails (s : State) : State := saveEnds (raiseAlert .store s)

/-- The arbiter takes a waiting SAVE first. -/
def takeSave (s : State) : State :=
  match s.stc.write, s.stc.saveWaiting, s.comm with
  | none, some _, some k =>
    let s1 := s.setStc { s.stc with saveWaiting := none }
    match s1.stc.checkpointSlot with
    | some i => s1.setStc (s1.stc.started (.save (capture k s1)) i false)
    | none => saveFails s1
  | _, _, _ => s

/-- Then a waiting JOURNAL. -/
def takeJournal (s : State) : State :=
  match s.stc.write, s.stc.journalWaiting with
  | none, some r =>
    let s1 := s.setStc { s.stc with journalWaiting := none }
    match s1.stc.journalSlot with
    | some i => s1.setStc (s1.stc.started (.journal r.entry) i false)
    | none => refuseStore r.entry (raiseAlert .store s1)
  | _, _ => s

/-- Then a waiting checkpoint request; where no slot can be written it ends at once as a failed write (R154). -/
def takeCheckpoint (s : State) : State :=
  match s.stc.write, s.stc.checkpointWaiting, s.comm with
  | none, some _, some k =>
    let s1 := s.setStc { s.stc with checkpointWaiting := none }
    match s1.stc.checkpointSlot with
    | some i => s1.setStc (s1.stc.started (.checkpoint (capture k s1)) i false)
    | none => raiseAlert .store s1
  | _, _, _ => s

/-- With the path free the arbiter takes a waiting request, in the order SAVE, JOURNAL, checkpoint (R157). It runs at the end of each command, so that a capture sees every effect of the event that placed its request (log entry 7). -/
def arbitrate (s : State) : State := takeCheckpoint (takeJournal (takeSave s))

/-- What a command answers: the state after the arbiter. -/
def finish (s : State) : Host.Outcome State Fault Refusal := .next (arbitrate s)

/-! ### Verify bad (R158, R159) -/

/-- A write fails: STORE, and the requester's failed completion (R159). -/
def writeFails (job : WriteJob) (s : State) : State :=
  let s1 := s.setStc { s.stc with write := none }
  match job with
  | .journal e => refuseStore e (raiseAlert .store s1)
  | .checkpoint _ => raiseAlert .store s1
  | .save _ => saveFails s1

/-- A write verifies bad: its slot is marked bad and health judged; the first attempt goes to a second slot, and without one, or after the second, the write fails (R158). -/
def writeBad (w : Write) (s : State) : State :=
  let s1 := s.setStc (s.stc.putSlot w.job w.slot .bad .bad).judged
  if w.second then writeFails w.job s1
  else
    match s1.stc.slotFor w.job with
    | some i => s1.setStc (s1.stc.started w.job i true)
    | none => writeFails w.job s1

end Sys2Proof.Machine
end

