-- ==== Sys2Proof/Machine/Codes.lean ====
section
/-! DEFINITION. CRU's shared operations (chapter 4): the ordered judgement of a code, the rejection run and the lockout, the redeemed list, the class effects with their outcomes, and the commit. -/

namespace Sys2Proof.Machine

/-! ### The redeemed list (R82, R83) -/

/-- The record of a committed code (R83). -/
def redeemedRecord (e : JournalEntry) : RedeemedRecord :=
  { seq := e.seq, cls := e.cls, amount := if e.cls = 0 then e.payload.toNat else 0, time := e.time
    number := e.number }

/-- A sequence is a new top (R82). -/
def newTop (h : Option Nat) (seq : Nat) : Bool :=
  match h with
  | none => true
  | some x => decide (x < seq)

/-- The list with a record in its place in ascending order. -/
def insertRecord (r : RedeemedRecord) (l : List RedeemedRecord) : List RedeemedRecord :=
  l.takeWhile (fun x => x.seq < r.seq) ++ r :: l.dropWhile (fun x => x.seq < r.seq)

/-- CRU records a code and clears the rejection run (R83, R92). -/
def Cru.record (e : JournalEntry) (c : Cru) : Cru :=
  let r := redeemedRecord e
  if newTop c.h e.seq then
    { c with
      h := some e.seq, run := none
      redeemed := c.redeemed.filter (fun x => e.seq < x.seq + 32) ++ [r] }
  else { c with redeemed := insertRecord r c.redeemed, run := none }

/-- The sequence check (R82): none passes. -/
def sequenceCheck (seq : Nat) (c : Cru) : Option CodeOutcome :=
  match c.h with
  | none => none
  | some h =>
    if h < seq then none
    else if seq + 31 < h then some .stale
    else if c.redeemed.any (fun r => r.seq == seq) then some .used
    else none

/-! ### The class effects and their outcomes (R95 to R100, section 10.4) -/

/-- CREDIT: the resulting C (R37). -/
def creditEffect (amount : Nat) (s : State) : State × List Byte :=
  let s1 := topUp amount s
  (s1, beInt 5 s1.ace.c)

/-- MIU sets W_lim to the value given and returns both over-limit runs to 0, at every such code (R95; R18, log entry 38). -/
def Miu.limited (x : Miu) (value : Nat) : Miu :=
  { x with wLim := value, line := { x.line with overRun := 0 }, ret := { x.ret with overRun := 0 } }

/-- LIMIT: which, and the new setting in credit steps or watts (R43, R18). -/
def limitEffect (which value : Nat) (s : State) : State × List Byte :=
  let out := be 1 which ++ be 5 (if which = 3 then value else value * 10000)
  match which with
  | 0 => (setCmax value s, out)
  | 1 => (setEmergency value s, out)
  | 2 => (setLowThreshold value s, out)
  | _ => (s.setMiu (s.miu.limited value), out)

/-- DEBT: the new B and the new share (R44). -/
def debtEffect (share units : Nat) (s : State) : State × List Byte :=
  (setDebt share units s, be 5 (units * 10000) ++ be 1 share)

/-- An editing class: the edit outcome (R63, R64). -/
def editEffect (a : CodeAction) (s : State) : State × List Byte :=
  let (o, c) := editPending (tariffEdit a) s.ctu
  (s.setCtu c, be 1 o.code)

/-- ACTIVATE: the activate outcome and the target as it then stands (R66). -/
def activateEffect (day : Nat) (recorded : Stamp) (s : State) : State × List Byte :=
  let (o, c) := schedulePending (targetOf day recorded) s.ctu
  (s.setCtu c, be 1 o.code ++ targetBytes c.pending)

/-- CLOCK: the clock set, with an urgent checkpoint; the count and the band (R53, R96). -/
def clockEffect (secs : Nat) (s : State) : State × List Byte :=
  let s1 := requestCheckpoint true (setClock secs s)
  (s1, be 4 s1.ctu.clock.count ++ be 1 s1.ctu.band.val)

/-- The latches that a clear of a set of kinds removes (R140). -/
def clearLatches (kinds : BitVec 8) (v : Vector KindRecord 8) : Vector KindRecord 8 :=
  v.mapIdx fun i r => if kinds.getLsbD i && !r.active then { r with latched := false } else r

/-- The named latched kinds whose condition is as given: the kept ones where it is active, the cleared ones where it is not (R140). -/
def latchedNamed (active : Bool) (kinds : BitVec 8) (v : Vector KindRecord 8) : BitVec 8 :=
  allKinds.foldl (fun m k =>
    let r := v[k.idx]
    if kinds.getLsbD k.idx && r.latched && r.active == active then m ||| BitVec.ofNat 8 (2 ^ k.idx.val)
    else m) 0

/-- TAMPER_CLEAR with the time its event carries: the set of kinds kept (R140, R147). -/
def tamperClearEffect (kinds : BitVec 8) (time : Stamp) (s : State) : State × List Byte :=
  let kept := latchedNamed true kinds s.tmn.records
  let cleared := latchedNamed false kinds s.tmn.records
  let s1 := s.setTmn { s.tmn with records := clearLatches kinds s.tmn.records }
  (judgeTamper (appendEventAt time (.tamperCleared cleared) s1), [kept])

/-- POLICY: the latch set, and whether TAMPER is present (R141). -/
def policyEffect (k : TamperKind) (p : Policy) (s : State) : State × List Byte :=
  let s1 := judgeTamper (setRecord k { s.kindRecord k with policy := p } s)
  (s1, [latchMask s1.tmn.records, BitVec.ofNat 8 s1.ssc.causes.tamper.toNat])

/-- KEY_HI: STAGED or REPLACED (R99). -/
def keyHiEffect (half : BitVec 32) (s : State) : State × List Byte :=
  (s.setCru { s.cru with staged := some half }, be 1 s.cru.staged.isSome.toNat)

/-- CRU under the key of a staged half and a KEY_LO code's half (R100). -/
def Cru.rekeyed (hi half : BitVec 32) (c : Cru) : Cru :=
  { c with key := some (hi ++ half), staged := none, h := none, redeemed := [], run := none }

/-- KEY_LO with the time its event carries: KEY_CHANGED (R100). A KEY_LO code is accepted only with a half staged (R85); an entry met without one has no effect and an empty outcome (DEDUCED, log entry 25). -/
def keyLoEffect (half : BitVec 32) (time : Stamp) (s : State) : State × List Byte :=
  match s.cru.staged with
  | some hi =>
    let s1 := s.setCru (s.cru.rekeyed hi half)
    (appendEventAt time .keyChanged (requestCheckpoint true s1), [0])
  | none => (s, [])

/-- SUPPLY: whether REMOTE is present, and the supply state (R98, R125). -/
def supplyEffect (release : Bool) (s : State) : State × List Byte :=
  let s1 := setCause .remote (!release) s
  (s1, [BitVec.ofNat 8 s1.ssc.causes.remote.toNat, BitVec.ofNat 8 s1.ssc.state.code])

/-- A class effect with its outcome (sections 4.9, 4.10); `time` is what the history event it may append carries, `recorded` the entry's clock. -/
def applyAction (time recorded : Stamp) (a : CodeAction) (s : State) : State × List Byte :=
  match a with
  | .credit amount => creditEffect amount s
  | .rate _ _ => editEffect a s
  | .switchPoint _ _ => editEffect a s
  | .special _ _ => editEffect a s
  | .friendly _ _ => editEffect a s
  | .standing _ => editEffect a s
  | .activate day => activateEffect day recorded s
  | .limit which value => limitEffect which value s
  | .debt share units => debtEffect share units s
  | .tamperClear kinds => tamperClearEffect kinds time s
  | .policy k p => policyEffect k p s
  | .clock secs => clockEffect secs s
  | .keyHi half => keyHiEffect half s
  | .keyLo half => keyLoEffect half time s
  | .supply release => supplyEffect release s

/-- The effect of an entry. An entry in the journal was judged when it was accepted, so its payload parses; one that does not has no effect and an empty outcome (DEDUCED, log entry 25). -/
def entryEffect (time : Stamp) (e : JournalEntry) (s : State) : State × List Byte :=
  match parseAction e.cls e.payload with
  | some a => applyAction time e.time a s
  | none => (s, [])

/-! ### Commit (R92) -/

/-- A code commits: its record, its effect, the applied journal number, no code in flight, and the ACCEPTED reply (R92). -/
def commitEntry (e : JournalEntry) (s : State) : State :=
  let s1 := s.setCru (s.cru.record e)
  let r := entryEffect s1.stamp e s1
  let s2 := r.1.setPsv { r.1.psv with applied := e.number }
  let s3 := s2.setCru { s2.cru with inFlight := none }
  answerSubmit (submitReply .accepted (classSeqBytes e.cls e.seq ++ r.2)) s3

/-- The journal write in flight of a code of class `cls` ends good: the entry is unfolded and its code commits (R151, R91, R92). Where no such write is in flight nothing happens. -/
def commitAs (cls : Nat) (s : State) : State :=
  match s.stc.write with
  | some { slot := i, job := .journal e, .. } =>
    if e.cls = cls then commitEntry e (journalGood i e s) else s
  | _ => s

/-! ### The judgement at submission (R74) -/

/-- What the judgement of a code gives: a refusal with the bytes that follow the outcome, or the plain code to be written. -/
inductive Judgement where
  | refuse (o : CodeOutcome) (rest : List Byte)
  | accept (p : PlainCode)
  deriving DecidableEq, Repr

/-- The fit of a code to the part's present state (R85): none passes. -/
def fitCheck (a : CodeAction) (s : State) : Option CodeOutcome :=
  match a with
  | .credit amount => if (s.ace.cmax : Int) < s.ace.prospective amount then some .limit else none
  | .activate _ => if s.ctu.pending = .none then some .empty else none
  | .keyLo _ => if s.cru.staged = none then some .value else none
  | _ => none

/-- The checks from the class on, on a code whose check value matched (R81 to R86). -/
def judgePlain (p : PlainCode) (s : State) : Judgement :=
  let rest := classSeqBytes p.cls p.seq
  if p.cls = 15 then .refuse .cls rest
  else
    match sequenceCheck p.seq s.cru with
    | some o => .refuse o rest
    | none =>
      match parseAction p.cls p.payload with
      | none => .refuse .value rest
      | some a =>
        match fitCheck a s with
        | some o => .refuse o rest
        | none => if s.stc.health = .failed then .refuse .store rest else .accept p

/-- The ordered checks of R74. -/
def judgeCode (payload : List Byte) (s : State) : Judgement :=
  if s.psv.power ≠ .run then .refuse .notReady (notReadyPayload s)
  else
    match s.comm, s.cru.key with
    | some _, some key =>
      if s.cru.inFlight.isSome || s.stc.journalFull then .refuse .busy []
      else if s.cru.lockEnd.isSome then .refuse .locked []
      else
        match parseDigits payload with
        | none => .refuse .format []
        | some v =>
          let p := cutPlain (unscramble key v)
          if p.check = checkOf p.cls p.seq p.payload then judgePlain p s else .refuse .check []
    | _, _ => .refuse .notCommissioned []

/-! ### The rejection run and the lockout (R87, R88) -/

/-- A refusal for this reason steps the rejection run (R87). -/
def CodeOutcome.steps : CodeOutcome → Bool
  | .format => true
  | .check => true
  | .cls => true
  | _ => false

/-- A lockout begins (R88). -/
def beginLockout (s : State) : State :=
  let s1 := s.setCru { s.cru with run := none, lockEnd := some (s.now + Config.hourTicks) }
  let s2 := raiseAlert .codeLock s1
  report .codeFlood { s2.tmn.views with codeFlood := true } s2

/-- The rejection run moves at a refusal (R87), or a lockout begins in place of a fifth (R88). -/
def stepRun (s : State) : State :=
  match s.cru.run with
  | none => s.setCru { s.cru with run := some { count := 1, start := s.now } }
  | some r =>
    if r.start + Config.hourTicks ≤ (s.now : Int) then
      s.setCru { s.cru with run := some { count := 1, start := s.now } }
    else if r.count < 4 then s.setCru { s.cru with run := some { r with count := r.count + 1 } }
    else beginLockout s

/-- The entry of an accepted code (R90). -/
def entryOf (p : PlainCode) (s : State) : JournalEntry :=
  { number := s.stc.nextJournal, cls := p.cls, seq := p.seq, payload := p.payload, time := s.stamp }

/-- An accepted code becomes the code in flight, its JOURNAL request is placed, and the SUBMIT stays in service (R90, R191). -/
def acceptCode (p : PlainCode) (s : State) : State :=
  let e := entryOf p s
  let s1 := s.setCru { s.cru with inFlight := some e }
  let s2 := s1.setStc { s1.stc with journalWaiting := some { entry := e, placed := s1.now } }
  s2.setLkp { s2.lkp with inService := some 3 }

/-- CRU takes a SUBMIT's payload (R73). -/
def takeSubmit (payload : List Byte) (s : State) : State :=
  match judgeCode payload s with
  | .accept p => acceptCode p s
  | .refuse o rest => pushReply (submitReply o rest) (if o.steps then stepRun s else s)

/-- The lockout ends (R89). -/
def endLockout (s : State) : State :=
  let s1 := s.setCru { s.cru with lockEnd := none }
  report .codeFlood { s1.tmn.views with codeFlood := false } s1

end Sys2Proof.Machine
end

