-- ==== Sys2Proof/Machine/Startup.lean ====
section
/-! DEFINITION. The start-up steps (R178 to R182): restoration and replay (step 2), the overlay, catch-up and reconciliation (step 3), the contactor comparison (step 4), and the entry to RUN (step 5). -/

namespace Sys2Proof.Machine

/-! ### Step 2: reading the store (R163, R164) -/

/-- The valid checkpoints with the commissioned marker, each with its slot (R163). -/
def Stc.marked (x : Stc) : List (Nat × Checkpoint) :=
  x.checkpoints.toList.zipIdx.filterMap fun p =>
    match p.1 with
    | .holding c => if c.marker then some (p.2, c) else none
    | _ => none

/-- Of slots and records, the one with the greatest number. -/
def highest {α : Type} (number : α → Nat) (l : List (Nat × α)) : Option (Nat × α) :=
  l.foldl (fun best p =>
    match best with
    | none => some p
    | some b => if number b.2 < number p.2 then some p else some b) none

/-- The checkpoint that restoration chooses (R163). -/
def Stc.chosen (x : Stc) : Option (Nat × Checkpoint) := highest (·.number) x.marked

/-- The valid journal entries, each with its slot (R164). -/
def Stc.entries (x : Stc) : List (Nat × JournalEntry) :=
  x.journal.toList.zipIdx.filterMap fun p =>
    match p.1 with
    | .holding e => some (p.2, e)
    | _ => none

/-- The valid journal entry with the greatest number. -/
def Stc.lastEntry (x : Stc) : Option (Nat × JournalEntry) := highest (·.number) x.entries

/-- The entry of a number. -/
def Stc.entryNumbered (x : Stc) (n : Nat) : Option JournalEntry :=
  (x.entries.map (·.2)).find? (fun e => e.number == n)

/-- The entries to replay: the run of numbers from `n` on, up to the first missing one, at most as many as there are slots (R164). -/
def Stc.replayRun (x : Stc) : Nat → Nat → List JournalEntry
  | 0, _ => []
  | fuel + 1, n =>
    match x.entryNumbered n with
    | some e => e :: x.replayRun fuel (n + 1)
    | none => []

/-- STC as restoration leaves it, for a folded number and the entries replayed (R163 to R165). -/
def Stc.restored (x : Stc) (newest : Option NewestCheckpoint) (run : List JournalEntry) : Stc :=
  let top := match x.lastEntry with
    | some p => p.2.number
    | none => 0
  let folded := match newest with
    | some c => c.folded
    | none => 0
  ({ journal := x.journal, checkpoints := x.checkpoints, newest := newest
     nextCheckpoint := match newest with
       | some c => succNumber c.number
       | none => 1
     nextJournal := succNumber (max folded top)
     newestJournal := x.lastEntry.map (·.1), newestNumber := max folded top
     unfolded := run.map (·.number), health := .good
     saveWaiting := none, journalWaiting := none, checkpointWaiting := none, write := none } : Stc).judged

/-! ### Step 2: taking the content (R47, R70, R102, R131, R147) -/

/-- CRU from a checkpoint, with the run's start set back and the lockout's end set ahead (R102). -/
def Checkpoint.cruAt (c : Checkpoint) (now : Nat) : Cru :=
  { key := c.key, staged := c.staged, h := c.h, redeemed := c.redeemed
    run := if c.runCount = 0 then none else some { count := c.runCount, start := (now : Int) - c.runAge }
    lockEnd := c.lockLeft.map (now + ·), inFlight := none }

/-- SSC from a checkpoint: its lasting state, and its working state begun afresh (R131). -/
def Checkpoint.ssc (c : Checkpoint) : Ssc :=
  let x := { Ssc.factory with
    state := c.supply, causes := c.causes, emptying := c.emptying, waiver := c.waiver, trips := c.trips }
  { x with ledPattern := ledPatternOf x.state (x.low || x.emInUse) }

/-- Every block takes its share of the chosen checkpoint. -/
def takeContent (slot : Nat) (c : Checkpoint) (run : List JournalEntry) (s : State) : State :=
  { s with
    comm := some c.comm
    miu := { s.miu with wLim := c.wLim }
    ace := c.ace
    ctu := { Ctu.factory with
      clock := s.ctu.clock, trim := s.ctu.trim, active := c.active, pending := c.pendingTariff }
    cru := c.cruAt s.now
    ssc := c.ssc
    tmn := { s.tmn with records := c.records, history := c.history, mark := false }
    stc := s.stc.restored (some { slot := slot, number := c.number, folded := c.folded }) run }

/-- Every block takes its factory values: the part is UNCOMMISSIONED (R163, R168). -/
def takeFactory (s : State) : State :=
  { s with
    comm := none
    miu := { s.miu with wLim := 0 }
    ace := .factory
    ctu := { Ctu.factory with clock := s.ctu.clock, trim := s.ctu.trim }
    cru := .factory
    ssc := .factory
    tmn := { s.tmn with records := Tmn.factoryRecords, history := [], mark := false }
    stc := s.stc.restored none [] }

/-! ### Step 2: replay (R101, R71) -/

/-- The check before a replayed edit or ACTIVATE: an activation already due at the entry's recorded clock (R71). -/
def replayCheck (e : JournalEntry) (s : State) : State :=
  match e.time with
  | .secs c => if 1 ≤ e.cls ∧ e.cls ≤ 6 then activateIfReached (absQuarterOf c) s else s
  | .clockInvalid => s

/-- One entry is replayed as at commit: no judgement, no reply, no alert (R101). -/
def replayEntry (s : State) (e : JournalEntry) : State :=
  let s1 := replayCheck e s
  (entryEffect e.time e (s1.setCru (s1.cru.record e))).1

/-! ### The end of step 2 (R179) -/

/-- The debounces begin: each level from the restored condition, each one-shot from 0 (R134). -/
def beginDebounce (pins : Pins) (t : Tmn) : Tmn :=
  let d := fun (sw : Switch) =>
    { last := pinLevel pins sw, shot := some 0, level := t.records[(switchKind sw).idx].active : Debounce }
  { t with cover := d .cover, terminal := d .terminal, magnet := d .magnet }

/-- Battery RAM at the end of step 2: a cold start fills it with what was restored and the number of its newest entry (R171, R169, log entry 2), a warm start sets what was restored aside (R148). -/
def fillBatteryRam (kind : StartKind) (bank : Tmn) (s : State) : State :=
  match kind with
  | .cold =>
    let s1 := s.setTmn (beginDebounce s.pins s.tmn)
    let s2 := s1.setCtu { s1.ctu with clock := .invalid, trim := none }
    s2.setPsv { s2.psv with bramValid := true, applied := s2.stc.newestNumber }
  | .warm => s.setTmn { bank with views := s.tmn.views }

/-- The end of step 2: ACE's judgements, the source views, battery RAM, TAMPER, and STC's own request (R179, R165). A start begins every source view inactive, and CODE_FLOOD then follows the restored lockout (R22, R102, R131, R149). -/
def endStepTwo (kind : StartKind) (bank : Tmn) (s : State) : State :=
  let s1 := judgeEmergency (judgeCredit s)
  let s2 := tellLow s1.ace.isLow s1
  let s3 := s2.setTmn { s2.tmn with views := { Views.inactive with codeFlood := s2.cru.lockEnd.isSome } }
  let s4 := fillBatteryRam kind bank (tellMiu s3.ssc.state s3)
  let s5 := judgeTamper (setPower (.startup 3 kind) s4)
  if 4 ≤ s5.stc.unfolded.length then requestCheckpoint true s5 else s5

/-- Step 2 (R179). -/
def stepTwo (kind : StartKind) (s : State) : State :=
  let s0 := setPower (.startup 2 kind) s
  match s0.stc.chosen with
  | none => endStepTwo kind s0.tmn (takeFactory s0)
  | some (slot, c) =>
    let run := s0.stc.replayRun 8 (c.folded + 1)
    let s1 := run.foldl replayEntry (takeContent slot c run s0)
    endStepTwo kind s0.tmn (s1.setCtu { s1.ctu with clock := s0.ctu.clock, trim := s0.ctu.trim })

/-! ### Step 3 (R180) -/

/-- The clock as a CLOCK entry above the applied journal number leaves it: moved on by the seconds counted since the entry's recorded clock (R70). A count past the greatest is the overflow of R50. A battery clock that went INVALID in the outage no longer shows what it counted: the seconds are then the code's own (DEDUCED, log entry 23). -/
def Clock.movedOn (c : Clock) (secs : Nat) (recorded : Stamp) : Clock :=
  let x := match recorded with
    | .secs r => if c.valid then secs + (c.count - r) else secs
    | .clockInvalid => secs
  if x ≤ Config.clockMax then c.set x else .invalid

/-- Battery RAM takes up an entry whose commit was never taken (R70, R148). -/
def takeUpEntry (s : State) (e : JournalEntry) : State :=
  match parseAction e.cls e.payload with
  | some (.clock secs) => s.setCtu { s.ctu with clock := s.ctu.clock.movedOn secs e.time }
  | some (.tamperClear kinds) =>
    let cleared := latchedNamed false kinds s.tmn.records
    appendEventAt e.time (.tamperCleared cleared)
      (s.setTmn { s.tmn with records := clearLatches kinds s.tmn.records })
  | some (.policy k p) => setRecord k { s.kindRecord k with policy := p } s
  | some (.keyLo _) => appendEventAt e.time .keyChanged s
  | _ => s

/-- The replayed entries above the applied journal number, in order (R169). -/
def untakenEntries (s : State) : List JournalEntry :=
  (s.stc.unfolded.filter (s.psv.applied < ·)).filterMap s.stc.entryNumbered

/-- The records of an UNCOMMISSIONED part: factory values, each switch kind's condition at its debounced level (R186). -/
def factoryTmn (t : Tmn) : Tmn :=
  let r := Tmn.factoryRecords
  { t with
    records :=
      ((r.set 0 { r[0] with active := t.cover.level }).set 1 { r[1] with active := t.terminal.level }).set 2
        { r[2] with active := t.magnet.level }
    history := [], mark := false }

/-- What step 3 lays over the restored state (R180, R186). On an UNCOMMISSIONED part a warm start leaves the applied journal number as it stood, where R169 speaks of every warm start (DESIGN CHOICE, log entry 36). -/
def overlay (kind : StartKind) (s : State) : State :=
  if s.commissioned then
    match kind with
    | .cold => s.setCtu { s.ctu with clock := .invalid, trim := none }
    | .warm =>
      let s1 := (untakenEntries s).foldl takeUpEntry s
      s1.setPsv { s1.psv with applied := s1.stc.newestNumber }
  else
    (s.setCtu { s.ctu with clock := .invalid, trim := none }).setTmn (factoryTmn s.tmn)

/-- The kinds that step 3 reconciles (R149), in the order in which it takes them: ascending kind number, which the manual leaves open (DESIGN CHOICE, log entry 35). -/
def reportedKinds : List TamperKind := [.imbalance, .reverse, .conductingOpen, .switchFault, .codeFlood]

/-- One kind's record is brought into line with the view (R149). -/
def reconcileKind (s : State) (k : TamperKind) : State :=
  let r := s.kindRecord k
  let c := viewCondition s.tmn.views r k
  if r.active && !c then conditionFalls k s
  else if c && !r.active then conditionRises k (viewSide s.tmn.views k) s
  else s

/-- The reconciliation at the end of step 3, the judgement of TAMPER, and the battery mark's checkpoint (R149). -/
def reconcile (s : State) : State :=
  let stuck := s.ssc.state == .stuckClosed || s.ssc.state == .stuckOpen
  let s1 := s.setTmn { s.tmn with views := { s.tmn.views with switchFault := stuck } }
  let s2 := judgeTamper (reportedKinds.foldl reconcileKind s1)
  if s2.tmn.mark then
    let s3 := requestCheckpoint true s2
    s3.setTmn { s3.tmn with mark := false }
  else s2

/-- The quarters that a catch-up has to charge (R30). -/
def quartersBehind (s : State) : Nat :=
  if s.ctu.clock.valid then absQuarterOf s.ctu.clock.count - s.ace.lastQ else 0

/-- Step 3 (R180). -/
def stepThree (kind : StartKind) (s : State) : State :=
  let s1 := judgeBand (overlay kind s)
  let s2 := tellFriendly s1.ctu.friendly s1
  let s3 := tellEmergency (s2.ace.em.code == 2) (tellLow s2.ace.isLow s2)
  reconcile (catchUp (quartersBehind s3) (issueTick s3))

/-! ### Step 4 (R181, R132) -/

/-- The state stands after the comparison: SSC judges it from the cause set as in RUN (R132). -/
def judgeRestored (s : State) : State :=
  match s.ssc.state with
  | .closed => judgeClosed s
  | .warning =>
    if s.ssc.causes.beyondCredit then enterOpening s
    else if s.ssc.causes.credit then warnOrDefer s
    else enterClosed s
  | .deferred =>
    if s.ssc.causes.beyondCredit then enterOpening s
    else if s.ssc.causes.credit then (if s.ssc.friendly then s else enterWarning s)
    else enterClosed s
  | .opened => judgeOpen s
  | .armed => if s.ssc.causes.isEmpty then s else enterOpen false s
  | .opening | .closing | .stuckClosed | .stuckOpen => s

/-- The comparison of LOAD_SENSE with the intended state (R132). An entry "as after a successful run" that no drive run made asks for no history event (R129). CLOSED, WARNING, DEFERRED and CLOSING are re-closed whatever causes the set holds, by this table and against R112's empty set (DEDUCED, log entry 33). -/
def compareContactor (present : Bool) (s : State) : State :=
  match s.ssc.state with
  | .closed | .warning | .deferred => if present then judgeRestored s else enterClosing s
  | .closing => if present then enterClosed s else startRun .toClose s
  | .opened | .armed => if present then enterOpening s else judgeRestored s
  | .opening => if present then startRun .toOpen s else enterOpen false s
  | .stuckClosed =>
    if present then (if s.ssc.causes.isEmpty then s else startRun .toOpen s)
    else enterOpen false (switchFaultFalls s)
  | .stuckOpen => s

/-! ### Step 5 (R182) -/

/-- MIU at entry to RUN: the line holding count is billed and the first window opens with both counts (R20); an UNCOMMISSIONED part drops them (R186). -/
def releaseHeld (s : State) : State :=
  let l := s.miu.line.held
  let r := s.miu.ret.held
  let s1 := s.setMiu { s.miu with line := { s.miu.line with held := 0 }, ret := { s.miu.ret with held := 0 } }
  if s1.commissioned then
    let s2 := billPulses l s1
    openWindow s2.now l r s2
  else s1

/-- SSC's timers and detector at entry to RUN (R132, R121). -/
def beginSsc (s : State) : State :=
  let x := s.ssc
  let s1 := s.setSsc { x with
    restore := if x.causes.overload then some 0 else x.restore
    tripDay := if 0 < x.trips then some 0 else x.tripDay
    accept := .disarmed }
  if s1.ssc.state = .stuckClosed then startStuckRetry s1 else s1

/-- `markAlert` where a condition stands. -/
def markIf (c : Bool) (a : Alert) (s : State) : State := if c then markAlert a s else s

/-- The alerts of the start (R182); an UNCOMMISSIONED part raises RESTART and STORE alone (R186). -/
def startAlerts (s : State) : State :=
  let k := s.commissioned
  let s1 := markIf (s.stc.health != .good) .store (markAlert .restart s)
  let s2 := markIf (k && !s.ctu.clock.valid) .clock s1
  let s3 := markIf (k && anyLatched s.tmn.records) .tamper s2
  let s4 := markIf (k && s.ace.isLow) .lowCredit s3
  let s5 := markIf (k && s.ctu.startMark) .tariff s4
  s5.setCtu { s5.ctu with startMark := false }

/-- Step 5: the entry to RUN (R182). -/
def enterRun (kind : StartKind) (s : State) : State :=
  let s1 := releaseHeld (setPower .run s)
  let s2 := if s1.ctu.clock.valid then s1 else s1.setCtu { s1.ctu with elapsed := some 0 }
  appendEvent (.powerUp kind) (startAlerts (beginSsc s2))

/-! ### The run of the steps -/

/-- Step 4 has ended where SSC has no drive run going: the waiting checkpoint is taken first, in STARTUP (R165), and RUN is entered. -/
def endStepFour (s : State) : State :=
  match s.psv.power with
  | .startup 4 kind => if s.ssc.run.isNone then enterRun kind (arbitrate s) else s
  | _ => s

/-- Step 1 has ended: steps 2 to 4 follow, once the write path is free (R185). -/
def runSteps (s : State) : State :=
  match s.psv.power with
  | .startup 1 kind =>
    if s.stc.write.isSome then s
    else
      let s1 := setPower (.startup 4 kind) (stepThree kind (stepTwo kind s))
      endStepFour (compareContactor s1.pins.loadSense s1)
  | _ => s

/-- A write that held step 2 back has ended (R185): the steps go on where the mains has been stable meanwhile. -/
def resumeSteps (s : State) : State :=
  if s.psv.stable = Config.stableTicks then runSteps s else s

/-- BATTERY to STARTUP, where step 1 ends at once (R175, R178), with LKP begun afresh (R192). -/
def startFromBattery (s : State) : State :=
  runSteps (beginStartup (if s.psv.bramValid then .warm else .cold) Config.stableTicks 0 0 (s.setLkp .blank))

end Sys2Proof.Machine
end

