-- ==== Sys2Proof/Machine/Link.lean ====
section
/-! DEFINITION. LKP's shared operations (chapter 9): reception byte by byte, the ordered judgement of a request (R190), the reply payloads of section 10.4, and provisioning (R200). -/

namespace Sys2Proof.Machine

/-! ### Fields of the replies (section 10.4) -/

/-- A time field: tag and clock seconds (section 10.2). -/
def timeField : Option Stamp → List Byte
  | none => be 1 0 ++ be 4 0
  | some (.secs c) => be 1 1 ++ be 4 c
  | some .clockInvalid => be 1 2 ++ be 4 0

/-- IDENT's and PROVISION's payload, 21 bytes. -/
def identPayload (s : State) : List Byte :=
  be 2 0x57D3 ++ be 2 0x0040 ++ be 1 3 ++
    (match s.comm with
     | some k => be 1 1 ++ k.meter ++ be 2 k.p
     | none => be 1 0 ++ List.replicate 12 0#8 ++ be 2 0) ++
    be 1 s.psv.power.code

/-- E_taken in units, 0 unless IN_USE. -/
def takenUnits : Emergency → Nat
  | .inUse taken => taken / 10000
  | _ => 0

/-- The line count of the open window, 0 where none is open (R195). -/
def windowLine (m : Miu) : Nat :=
  match m.window with
  | some w => w.nL
  | none => 0

/-- The return count of the open window, 0 where none is open (R195). -/
def windowRet (m : Miu) : Nat :=
  match m.window with
  | some w => w.nR
  | none => 0

/-- SNAPSHOT's byte 27. -/
def snapshotFlags (s : State) : Nat :=
  s.ace.em.code * 64 + s.ctu.band.val * 16 + s.ctu.friendly.toNat * 8 + s.ctu.clock.valid.toNat * 4 +
    s.stc.health.code

/-- SNAPSHOT's payload, 60 bytes (R195, R206). R87 has SNAPSHOT show the rejection run, for which the 60 bytes have no field: none is sent (DESIGN CHOICE, log entry 32). -/
def snapshotPayload (s : State) : List Byte :=
  beInt 5 s.ace.c ++ be 5 s.ace.b ++ be 2 (takenUnits s.ace.em) ++ be 2 s.ace.d ++ be 1 s.ace.q ++
    be 4 s.ctu.clock.count ++ be 2 (reportedDemand s) ++
    be 2 (min 65535 (windowLine s.miu)) ++ be 2 (min 65535 (windowRet s.miu)) ++
    be 1 (s.ssc.state.code * 16 + s.ssc.causes.mask) ++ [latchMask s.tmn.records] ++
    be 1 (snapshotFlags s) ++ be 2 (presentMask s.lkp.alerts) ++ be 2 (unseenMask s.lkp.alerts) ++
    (s.ace.reg.toList.map (be 4)).flatten ++
    be 4 s.ace.creditApplied ++ be 4 s.ace.debtCharges ++ be 4 s.ace.debtRecovered

/-- A switch point: a quarter byte, 127 for none, and a band byte. -/
def switchBytes (p : SwitchPoint) : List Byte := be 1 (p.quarter.getD 127) ++ be 1 p.band.val

/-- A tariff's content by part number (section 10.4). -/
def tariffPart (t : Tariff) (part : Nat) : List Byte :=
  match part with
  | 0 => (t.rates.toList.map (be 4)).flatten ++ be 4 t.standing
  | 1 => (t.switches.toList.map switchBytes).flatten
  | _ =>
    (t.windows.toList.map fun w => be 1 w.start ++ be 1 w.stop).flatten ++
      (t.specials.toList.map fun d => be 2 (d.getD 65535)).flatten

/-- The tariff that a selector names, where there is one. -/
def selectedTariff (selector : Nat) (c : Ctu) : Option Tariff :=
  if selector = 0 then some c.active
  else
    match c.pending with
    | .none => none
    | .editing t => some t
    | .scheduled t _ => some t

/-- READ_TARIFF's payload: the header, and the content unless the read is of a pending tariff in NONE. -/
def tariffPayload (selector part : Nat) (c : Ctu) : List Byte :=
  be 1 selector ++ be 1 part ++ be 1 c.pending.code ++ targetBytes c.pending ++
    (match selectedTariff selector c with
     | some t => tariffPart t part
     | none => [])

/-- READ_TAMPER's payload, 15 bytes. -/
def tamperPayload (kind : Nat) (r : KindRecord) : List Byte :=
  be 1 kind ++ be 1 (r.active.toNat + 2 * r.latched.toNat + 4 * sideCode r.side) ++ be 1 r.policy.code ++
    be 2 r.count ++ timeField r.first ++ timeField r.last

/-- An event kind's place (section 10.2). -/
def EventKind.code : EventKind → Nat
  | .tamperOn _ _ => 0
  | .coverClosed => 1
  | .tamperCleared _ => 2
  | .supplyOpened _ => 3
  | .supplyClosed => 4
  | .supplyStuck _ => 5
  | .powerDown => 6
  | .powerUp _ => 7
  | .keyChanged => 8

/-- An event's detail byte (section 10.4). -/
def EventKind.detail : EventKind → Nat
  | .tamperOn k side => k.idx.val + 16 * sideCode side
  | .tamperCleared kinds => kinds.toNat
  | .supplyOpened c => c.mask
  | .supplyStuck d => if d = .toOpen then 0 else 1
  | .powerUp k => if k = .cold then 0 else 1
  | .coverClosed | .supplyClosed | .powerDown | .keyChanged => 0

/-- READ_HISTORY's payload, 9 bytes. -/
def historyPayload (held index : Nat) (e : Event) : List Byte :=
  be 1 held ++ be 1 index ++ timeField (some e.time) ++ be 1 e.kind.code ++ be 1 e.kind.detail

/-- READ_REDEEMED's payload, 20 bytes. -/
def redeemedPayload (held : Nat) (h : Option Nat) (r : RedeemedRecord) : List Byte :=
  be 1 held ++ be 1 h.isSome.toNat ++ be 2 (h.getD 0) ++ be 2 r.seq ++ be 1 r.cls ++ be 4 r.amount ++
    timeField (some r.time) ++ be 4 r.number

/-- READ_ALERTS' and CLEAR_ALERTS' payload, 4 bytes. -/
def alertsPayload (v : Vector AlertMark 9) : List Byte := be 2 (presentMask v) ++ be 2 (unseenMask v)

/-! ### Answers -/

/-- A reply other than SUBMIT's is handed to the outbox. -/
def answer (st : Status) (type : Nat) (payload : List Byte) (s : State) : State :=
  pushReply { status := st, type := type, payload := payload } s

/-- IDENT (R193). -/
def answerIdent (s : State) : State := answer .ok 1 (identPayload s) s

/-- SNAPSHOT (R195). -/
def answerSnapshot (s : State) : State := answer .ok 4 (snapshotPayload s) s

/-- READ_TARIFF (R196, R207). -/
def answerReadTariff (payload : List Byte) (s : State) : State :=
  let selector := ofBe (payload.take 1)
  let part := ofBe (payload.drop 1)
  if selector ≤ 1 ∧ part ≤ 2 then answer .ok 5 (tariffPayload selector part s.ctu) s
  else answer .outOfRange 5 [] s

/-- READ_TAMPER (R196, R207). -/
def answerReadTamper (payload : List Byte) (s : State) : State :=
  match kindOf (ofBe payload) with
  | some k => answer .ok 7 (tamperPayload (ofBe payload) (s.kindRecord k)) s
  | none => answer .outOfRange 7 [] s

/-- READ_HISTORY (R197, R143). -/
def answerReadHistory (payload : List Byte) (s : State) : State :=
  match s.tmn.history[ofBe payload]? with
  | some e => answer .ok 8 (historyPayload s.tmn.history.length (ofBe payload) e) s
  | none => answer .outOfRange 8 [] s

/-- READ_REDEEMED (R197, R104). -/
def answerReadRedeemed (payload : List Byte) (s : State) : State :=
  match s.cru.redeemed.reverse[ofBe payload]? with
  | some r => answer .ok 9 (redeemedPayload s.cru.redeemed.length s.cru.h r) s
  | none => answer .outOfRange 9 [] s

/-- READ_ALERTS: the marks as they stand, and then every present alert is seen (R202). -/
def answerReadAlerts (s : State) : State :=
  answer .ok 10 (alertsPayload s.lkp.alerts)
    (s.setLkp { s.lkp with alerts := s.lkp.alerts.map AlertMark.markSeen })

/-- CLEAR_ALERTS: the named seen alerts go, and the set as it then stands is the reply (R203, R207). -/
def answerClearAlerts (payload : List Byte) (s : State) : State :=
  let mask := ofBe payload
  if mask < 512 then
    let v := clearSeen mask s.lkp.alerts
    answer .ok 11 (alertsPayload v) (s.setLkp { s.lkp with alerts := v })
  else answer .outOfRange 11 [] s

/-- TRIM_CLOCK: the applied amount and the clock after it (R198, R54). -/
def answerTrimClock (payload : List Byte) (s : State) : State :=
  let r := trimClock (ofBeSigned32 payload) s
  answer .ok 6 (beInt 4 r.1 ++ be 4 r.2.ctu.clock.count ++ be 1 r.2.ctu.clock.valid.toNat) r.2

/-! ### Provisioning (R199, R200) -/

/-- A record as provisioning leaves it: factory values, its condition kept (R150). -/
def keptCondition (old new : Vector KindRecord 8) : Vector KindRecord 8 :=
  new.mapIdx fun i r => { r with active := (old.toList.getD i r).active }

/-- Steps 1 to 3 of R200: STC and battery RAM's applied number, CRU, and CTU. -/
def provisionStore (k : Commission) (key : BitVec 64) (secs : Nat) (s : State) : State :=
  let s1 := (s.setComm (some k)).setStc { s.stc with unfolded := [] }
  let s2 := (s1.setPsv { s1.psv with applied := s1.stc.newestNumber }).setCru
    { Cru.factory with key := some key }
  judgeBand (s2.setCtu { Ctu.factory with clock := s2.ctu.clock.set secs })

/-- Steps 4 to 6 of R200: ACE, MIU and TMN. -/
def provisionAccount (secs : Nat) (s : State) : State :=
  let s1 := judgeCredit (s.setAce { Ace.factory with lastQ := absQuarterOf secs })
  let s2 := tellEmergency false (tellLow s1.ace.isLow s1)
  let s3 := s2.setMiu { s2.miu with
    wLim := 0, line := { s2.miu.line with overRun := 0 }, ret := { s2.miu.ret with overRun := 0 } }
  let s4 := openWindow s3.now 0 0 s3
  judgeTamper (s4.setTmn
    { s4.tmn with records := keptCondition s4.tmn.records Tmn.factoryRecords, history := [], mark := false })

/-- Step 7 of R200: SSC's waiver, trips and timers, and the removal of REMOTE (R126). -/
def provisionSupply (s : State) : State :=
  let s1 := s.setSsc { s.ssc with
    waiver := true, trips := 0, tripDay := none, restore := none, warn := none, stuckRetry := none
    loadCount := 0 }
  let s2 := setCause .remote false s1
  if s2.ssc.state = .stuckClosed then startStuckRetry s2 else s2

/-- A PROVISION request that passed its checks (R200). -/
def provisionPart (k : Commission) (key : BitVec 64) (secs : Nat) (s : State) : State :=
  let s1 := provisionSupply (provisionAccount secs (provisionStore k key secs s))
  let s2 := requestCheckpoint true s1
  answer .ok 2 (identPayload s2) s2

/-- PROVISION (R199). -/
def answerProvision (payload : List Byte) (s : State) : State :=
  let meter := payload.take 12
  let key := BitVec.ofNat 64 (ofBe ((payload.drop 12).take 8))
  let p := ofBe ((payload.drop 20).take 2)
  let secs := ofBe (payload.drop 22)
  if s.commissioned then answer .refused 2 [] s
  else if meter.all isDigit && decide (100 ≤ p) && decide (p ≤ 20000) then
    provisionPart { meter := meter, p := p } key secs s
  else answer .outOfRange 2 [] s

/-! ### The judgement of a request (R190) -/

/-- The fixed payload size of a type; SUBMIT has none (section 10.3). -/
def fixedSize : Nat → Option Nat
  | 1 => some 0
  | 2 => some 26
  | 4 => some 0
  | 5 => some 2
  | 6 => some 4
  | 7 => some 1
  | 8 => some 1
  | 9 => some 1
  | 10 => some 0
  | 11 => some 2
  | _ => none

/-- A type byte names a request (section 9.3). -/
def isRequest (t : Nat) : Bool := decide (1 ≤ t) && decide (t ≤ 11)

/-- The request type in a reply's type byte: 0 where the request names none (R206). -/
def replyType (t : Nat) : Nat := if isRequest t then t else 0

/-- The request is carried out (order 5 of R190). -/
def carryOut (t : Nat) (payload : List Byte) (s : State) : State :=
  match t with
  | 1 => answerIdent s
  | 2 => answerProvision payload s
  | 3 => takeSubmit payload s
  | 4 => answerSnapshot s
  | 5 => answerReadTariff payload s
  | 6 => answerTrimClock payload s
  | 7 => answerReadTamper payload s
  | 8 => answerReadHistory payload s
  | 9 => answerReadRedeemed payload s
  | 10 => answerReadAlerts s
  | 11 => answerClearAlerts payload s
  | _ => s

/-- The NOT_READY reply (R206); on SUBMIT the code outcome rides with it. -/
def answerNotReady (t : Nat) (s : State) : State :=
  if t = 3 then pushReply (submitReply .notReady (notReadyPayload s)) s
  else answer .notReady (replyType t) (notReadyPayload s) s

/-- The BUSY reply; on SUBMIT the code outcome rides with it. -/
def answerBusy (t : Nat) (s : State) : State :=
  if t = 3 then pushReply (submitReply .busy []) s else answer .busy (replyType t) [] s

/-- The payload's length is wrong for the type (order 4 of R190). -/
def badSize (t : Nat) (payload : List Byte) : Bool :=
  match fixedSize t with
  | some n => payload.length != n
  | none => false

/-- LKP judges a complete request, in the order of R190. -/
def judgeRequest (type : Byte) (payload : List Byte) (s : State) : State :=
  let t := type.toNat
  if s.psv.power ≠ .run then answerNotReady t s
  else if s.lkp.inService.isSome then answerBusy t s
  else if !isRequest t then answer .unknownType 0 [] s
  else if badSize t payload then answer .badLength t [] s
  else carryOut t payload s

/-! ### Reception (R188, R189) -/

/-- `s` with the assembler in a state, a byte having ended now. -/
def setRx (x : RxState) (s : State) : State :=
  s.setLkp { s.lkp with rx := { state := x, lastByte := s.now } }

/-- The gap since the last byte has reached 21 ticks inside a frame (R189). -/
def State.gapOver (s : State) : Bool :=
  s.lkp.rx.state != .hunt && decide (s.lkp.rx.lastByte + 21 ≤ s.now)

/-- LKP takes a byte, in the power states in which it is powered (R188). -/
def receiveByte (s : State) (b : RxByte) : State :=
  if s.psv.power.mainPowered then
    let st := if s.gapOver then RxState.hunt else s.lkp.rx.state
    if b.stopOk then
      match rxByte st b.value with
      | (x, .complete t p) => judgeRequest t p (setRx x s)
      | (x, _) => setRx x s
    else setRx .hunt s
  else s

/-- LKP takes bytes one after the other. -/
def receive (l : List RxByte) (s : State) : State := l.foldl receiveByte s

/-- Bytes with good stop bits. -/
def goodBytes (l : List Byte) : List RxByte := l.map fun b => { value := b, stopOk := true }

/-- A whole frame arrives. -/
def receiveFrame (type : Byte) (payload : List Byte) (s : State) : State :=
  receive (goodBytes (frame type payload)) s

end Sys2Proof.Machine
end

