-- ==== Sys2Proof/Machine/ExecCalendar.lean ====
section
/-! DEFINITION. The meanings of CTU's commands (chapter 3). -/

namespace Sys2Proof.Machine

/-- The clock overflows: INVALID, band 0, the CLOCK alert, and the elapsed-tick timer in RUN and HOLDUP (R50, R52, R61). -/
def overflowClock (s : State) : State :=
  let s1 := s.setCtu { s.ctu with
    clock := .invalid, elapsed := if s.psv.power.running then some 0 else s.ctu.elapsed }
  let s2 := if s1.ticksIssued then judgeBand s1 else s1
  raiseAlert .clock s2

/-- The clock counts a second; entering a new quarter judges the band and issues its tick (R50, R58, R60). -/
def countSecond (s : State) : State :=
  let c := s.ctu.clock
  let s1 := s.setCtu { s.ctu with clock := { c with count := c.count + 1, sub := c.sub - 1024 } }
  if absQuarterOf c.count ≠ absQuarterOf (c.count + 1) ∧ s1.ticksIssued = true then issueTick (judgeBand s1)
  else s1

/-- CLOCK_SECOND (R50). -/
def execClockSecond (s : State) : Host.Outcome State Fault Refusal :=
  if s.ctu.clock.valid then
    let s1 := elapse (1024 - s.ctu.clock.sub) s
    if s1.ctu.clock.count < Config.clockMax then finish (countSecond s1) else finish (overflowClock s1)
  else .next s

/-- QUARTER_TICK: the named tick that CTU has issued is taken (R62). -/
def execQuarterTick (s : State) : Host.Outcome State Fault Refusal :=
  if s.ctu.issued.isSome then finish (takeIssuedTick s) else .next s

/-- ELAPSED_TICK_EXPIRY: a tick that names no quarter, and the timer starts again (R61). -/
def execElapsedTickExpiry (s : State) : Host.Outcome State Fault Refusal :=
  match s.ctu.elapsed with
  | some k =>
    let s1 := elapse (Config.quarterTicks - k) s
    finish (handleTick none (s1.setCtu { s1.ctu with elapsed := some 0 }))
  | none => .next s

end Sys2Proof.Machine
end

