-- ==== Sys2Proof/Machine/ExecCodes.lean ====
section
/-! DEFINITION. The meanings of the fifteen code classes, each the commit of a code of that class as its journal write completes good (R92), and of LOCKOUT_END. -/

namespace Sys2Proof.Machine

/-- LOCKOUT_END: the timebase reaches the lockout end (R89). -/
def execLockoutEnd (s : State) : Host.Outcome State Fault Refusal :=
  match s.cru.lockEnd with
  | some t => finish (endLockout (elapse (t - s.now) s))
  | none => .next s

/-- CREDIT (R37). -/
def execCredit (s : State) : Host.Outcome State Fault Refusal := finish (commitAs 0 s)

/-- RATE (R63). -/
def execRate (s : State) : Host.Outcome State Fault Refusal := finish (commitAs 1 s)

/-- SWITCH (R64). -/
def execSwitchPoint (s : State) : Host.Outcome State Fault Refusal := finish (commitAs 2 s)

/-- SPECIAL (R64). -/
def execSpecial (s : State) : Host.Outcome State Fault Refusal := finish (commitAs 3 s)

/-- FRIENDLY (R64). -/
def execFriendly (s : State) : Host.Outcome State Fault Refusal := finish (commitAs 4 s)

/-- ACTIVATE (R66). -/
def execActivate (s : State) : Host.Outcome State Fault Refusal := finish (commitAs 5 s)

/-- STANDING (R64). -/
def execStanding (s : State) : Host.Outcome State Fault Refusal := finish (commitAs 6 s)

/-- LIMIT (R43, R18). -/
def execLimit (s : State) : Host.Outcome State Fault Refusal := finish (commitAs 7 s)

/-- DEBT (R44). -/
def execDebt (s : State) : Host.Outcome State Fault Refusal := finish (commitAs 8 s)

/-- TAMPER_CLEAR (R140). -/
def execTamperClear (s : State) : Host.Outcome State Fault Refusal := finish (commitAs 9 s)

/-- POLICY (R141). -/
def execPolicy (s : State) : Host.Outcome State Fault Refusal := finish (commitAs 10 s)

/-- CLOCK (R53). -/
def execClock (s : State) : Host.Outcome State Fault Refusal := finish (commitAs 11 s)

/-- KEY_HI (R99). -/
def execKeyHi (s : State) : Host.Outcome State Fault Refusal := finish (commitAs 12 s)

/-- KEY_LO (R100). -/
def execKeyLo (s : State) : Host.Outcome State Fault Refusal := finish (commitAs 13 s)

/-- SUPPLY (R98, R125). -/
def execSupply (s : State) : Host.Outcome State Fault Refusal := finish (commitAs 14 s)

end Sys2Proof.Machine
end

