-- ==== Sys2Proof/Machine/ExecLink.lean ====
section
/-! DEFINITION. The meanings of LKP's commands (chapter 9): each request is a frame that arrives byte by byte and is judged when it is complete (R188, R190). -/

namespace Sys2Proof.Machine

/-- IDENT (R193). -/
def execIdent (payload : List Byte) (s : State) : Host.Outcome State Fault Refusal :=
  finish (receiveFrame 1 payload s)

/-- PROVISION (R199, R200). -/
def execProvision (payload : List Byte) (s : State) : Host.Outcome State Fault Refusal :=
  finish (receiveFrame 2 payload s)

/-- SUBMIT (R73, R74). -/
def execSubmit (payload : List Byte) (s : State) : Host.Outcome State Fault Refusal :=
  finish (receiveFrame 3 payload s)

/-- SNAPSHOT (R195). -/
def execSnapshot (payload : List Byte) (s : State) : Host.Outcome State Fault Refusal :=
  finish (receiveFrame 4 payload s)

/-- READ_TARIFF (R196). -/
def execReadTariff (payload : List Byte) (s : State) : Host.Outcome State Fault Refusal :=
  finish (receiveFrame 5 payload s)

/-- TRIM_CLOCK (R198, R54). -/
def execTrimClock (payload : List Byte) (s : State) : Host.Outcome State Fault Refusal :=
  finish (receiveFrame 6 payload s)

/-- READ_TAMPER (R196). -/
def execReadTamper (payload : List Byte) (s : State) : Host.Outcome State Fault Refusal :=
  finish (receiveFrame 7 payload s)

/-- READ_HISTORY (R197). -/
def execReadHistory (payload : List Byte) (s : State) : Host.Outcome State Fault Refusal :=
  finish (receiveFrame 8 payload s)

/-- READ_REDEEMED (R197). -/
def execReadRedeemed (payload : List Byte) (s : State) : Host.Outcome State Fault Refusal :=
  finish (receiveFrame 9 payload s)

/-- READ_ALERTS (R202). -/
def execReadAlerts (payload : List Byte) (s : State) : Host.Outcome State Fault Refusal :=
  finish (receiveFrame 10 payload s)

/-- CLEAR_ALERTS (R203). -/
def execClearAlerts (payload : List Byte) (s : State) : Host.Outcome State Fault Refusal :=
  finish (receiveFrame 11 payload s)

/-- UNKNOWN_REQUEST: a complete frame whose type names no request (R190). -/
def execUnknownRequest (type : Byte) (payload : List Byte) (s : State) : Host.Outcome State Fault Refusal :=
  finish (receiveFrame type payload s)

/-- FRAME_DISCARD: the bytes of a frame that is discarded (R189). -/
def execFrameDiscard (bytes : List RxByte) (s : State) : Host.Outcome State Fault Refusal :=
  finish (receive bytes s)

/-- The gap reaches 21 ticks: the assembler returns to HUNT with nothing kept (R189). -/
def gapDiscard (s : State) : State :=
  if s.psv.power.mainPowered && s.lkp.rx.state != .hunt then
    let s1 := elapse (s.lkp.rx.lastByte + 21 - s.now) s
    s1.setLkp { s1.lkp with rx := { s1.lkp.rx with state := .hunt } }
  else s

/-- FRAME_GAP_TIMEOUT (R189). -/
def execFrameGapTimeout (bytes : List RxByte) (s : State) : Host.Outcome State Fault Refusal :=
  finish (gapDiscard (receive bytes s))

/-- REPLY_SENT: the oldest reply has gone out whole, and the transmitter takes the next (R191). -/
def execReplySent (s : State) : Host.Outcome State Fault Refusal :=
  finish (s.setLkp { s.lkp with outbox := s.lkp.outbox.tail })

end Sys2Proof.Machine
end

