-- ==== Sys2Proof/Machine/ExecMetering.lean ====
section
/-! DEFINITION. The meanings of MIU's commands (chapter 1). -/

namespace Sys2Proof.Machine

/-- A channel's pulse is accepted: four high samples have followed the last low one (R1), and the period is taken (R2). -/
def acceptPulse (ch : ChannelId) (s : State) : State :=
  let s1 := elapse (4 - (s.miu.channel ch).det.since) s
  let c := s1.miu.channel ch
  let s2 := s1.setPins (setPulsePin s1.pins ch true)
  s2.setMiu (s2.miu.setChannel ch { c.accepted s1.now with det := c.det.fired 4 })

/-- The period that the acceptance of a channel's next pulse measures (R2). -/
def measuredPeriod (ch : ChannelId) (s : State) : Option Nat :=
  let s1 := elapse (4 - (s.miu.channel ch).det.since) s
  (s1.miu.channel ch).measures s1.now

/-- The line count, and the reverse count for a reverse pulse, rise (R4). -/
def countLine (reverse : Bool) (s : State) : State :=
  s.setMiu { s.miu with
    window := s.miu.window.map fun w => { w with nL := w.nL + 1, rev := w.rev + reverse.toNat } }

/-- The return count rises (R5). -/
def countReturn (s : State) : State :=
  s.setMiu { s.miu with window := s.miu.window.map fun w => { w with nR := w.nR + 1 } }

/-- An accepted line pulse in RUN or HOLDUP: billed, counted, flashed, and judged for overload (R4). -/
def billLine (reverse : Bool) (measured : Option Nat) (k : Commission) (s : State) : State :=
  updateOverRun .line measured k.p (queueFlash (countLine reverse (billPulse s)))

/-- LINE_PULSE_ACCEPTED (R4, R19, R23). -/
def execLinePulseAccepted (reverse : Bool) (s : State) : Host.Outcome State Fault Refusal :=
  if s.psv.power.mainPowered && s.miu.line.det.armed then
    let s1 := acceptPulse .line s
    let s2 := s1.setPins { s1.pins with lineDir := reverse }
    if s2.psv.power.running then
      match s2.comm with
      | some k => finish (billLine reverse (measuredPeriod .line s) k s2)
      | none => finish (queueFlash s2)
    else finish (holdPulse .line s2)
  else .next s

/-- RETURN_PULSE_ACCEPTED (R5, R19, R23). -/
def execReturnPulseAccepted (s : State) : Host.Outcome State Fault Refusal :=
  if s.psv.power.mainPowered && s.miu.ret.det.armed then
    let s1 := acceptPulse .ret s
    if s1.psv.power.running then
      match s1.comm with
      | some k => finish (updateOverRun .ret (measuredPeriod .ret s) k.p (countReturn s1))
      | none => finish (queueFlash s1)
    else finish (holdPulse .ret s1)
  else .next s

/-- NO_RECENT_PULSE: 4,194,303 ticks since the channel's last acceptance (R2). -/
def execNoRecentPulse (ch : ChannelId) (s : State) : Host.Outcome State Fault Refusal :=
  match (s.miu.channel ch).lastAt with
  | some t =>
    let s1 := elapse (t + Config.quietTicks - s.now) s
    finish (s1.setMiu (s1.miu.setChannel ch (s1.miu.channel ch).quiet))
  | none => .next s

/-- The slot ends: the next pending flash is taken, or the flasher goes idle (R6). -/
def Miu.nextFlash (m : Miu) : Miu :=
  if 0 < m.flashPending then { m with flashPending := m.flashPending - 1, flashSlot := some 0 }
  else { m with flashSlot := none }

/-- FLASH_SLOT_END (R6). -/
def execFlashSlotEnd (s : State) : Host.Outcome State Fault Refusal :=
  match s.miu.flashSlot with
  | some k =>
    let s1 := elapse (Config.flashTicks - k) s
    finish (s1.setMiu s1.miu.nextFlash)
  | none =>
    if 0 < s.miu.flashPending then
      let s1 := elapse Config.flashTicks s
      finish (s1.setMiu s1.miu.nextFlash)
    else .next s

/-- WINDOW_EXPIRY (R8). -/
def execWindowExpiry (s : State) : Host.Outcome State Fault Refusal :=
  match s.miu.window with
  | some w => finish (expireWindow w (elapse (w.start + Config.minuteTicks - s.now) s))
  | none => .next s

/-- CHANNEL_REARMED: a low sample, at least one tick after an acceptance (R1). -/
def execChannelRearmed (ch : ChannelId) (s : State) : Host.Outcome State Fault Refusal :=
  if s.psv.power.mainPowered then
    let d := (s.miu.channel ch).det
    let s1 := elapse (if d.armed then 0 else 1 - d.since) s
    let s2 := s1.setPins (setPulsePin s1.pins ch false)
    let c := s2.miu.channel ch
    finish (s2.setMiu (s2.miu.setChannel ch { c with det := c.det.released }))
  else finish (s.setPins (setPulsePin s.pins ch false))

end Sys2Proof.Machine
end

