-- ==== Sys2Proof/Machine/ExecPower.lean ====
section
/-! DEFINITION. The meanings of the power commands (chapter 8). An event that the part's present state cannot give (a timer that is not running, a unit that is not powered) changes nothing (log entry 9). -/

namespace Sys2Proof.Machine

/-- POWER_ON: from OFF the main supply powers the part, a cold start (R170, R178), with LKP begun afresh (R192). -/
def execPowerOn (pins : Pins) (s : State) : Host.Outcome State Fault Refusal :=
  if s.psv.power = .off then finish (beginStartup .cold 0 0 0 ((s.setPins pins).setLkp .blank)) else .next s

/-- MAINS_OK_FALL (R172; R183 and R173 where the part is not in RUN). -/
def execMainsOkFall (s : State) : Host.Outcome State Fault Refusal := finish (mainsFalls false s)

/-- MAINS_FAIL_IN_STARTUP (R183). -/
def execMainsFailInStartup (written : Bool) (s : State) : Host.Outcome State Fault Refusal :=
  match s.psv.power with
  | .startup _ _ => finish (mainsFalls written s)
  | .off | .run | .holdup | .battery => .next s

/-- MAINS_STABLE: with MAINS_OK high the count reaches 2,048 (R175), which starts the part from BATTERY or ends step 1. -/
def execMainsStable (s : State) : Host.Outcome State Fault Refusal :=
  let s1 := elapse (Config.stableTicks - s.psv.stable) s
  if s.pins.mainsOk then
    match s.psv.power with
    | .battery => finish (startFromBattery s1)
    | .startup 1 _ => finish (runSteps s1)
    | _ => .next s
  else .next s

/-- VBAT_EXHAUSTED: in BATTERY an exhausted VBAT takes the part to OFF; elsewhere the judgement is noted, for PSV to look at when the mains is lost (R171, R173, R174, R176, R183). A VBAT that can hold the domain again is noted in any power state (log entry 15). -/
def execVbatExhausted (s : State) (exhausted : Bool := true) : Host.Outcome State Fault Refusal :=
  let s1 := s.setPins { s.pins with vbat := !exhausted }
  if s.psv.power = .battery ∧ exhausted = true then finish (enterOff s1) else finish s1

/-- HOLDUP_POWER_LOSS (R176). -/
def execHoldupPowerLoss (written : Bool) (s : State) : Host.Outcome State Fault Refusal :=
  if s.psv.power = .holdup then finish (loseMains (cutWrite written s)) else .next s

/-- A RESET request made (R184): taken in RUN (R172) and in STARTUP (R185). -/
def takeReset (s : State) : State :=
  match s.psv.power with
  | .run => enterHoldup s
  | .startup _ kind => restartSteps kind s
  | .off | .holdup | .battery => s

/-- RESET_REQUEST: the 32nd asserted sample while the detector is armed (R184). -/
def execResetRequest (s : State) : Host.Outcome State Fault Refusal :=
  if s.psv.power ≠ .off ∧ s.psv.reset.armed = true then
    let s1 := elapse (32 - s.psv.reset.since) s
    let s2 := s1.setPins { s1.pins with reset := true }
    finish (takeReset (s2.setPsv { s2.psv with reset := s2.psv.reset.fired 0 }))
  else .next s

/-- SAVE_COMPLETE (R158, R174). -/
def execSaveComplete (good : Bool) (s : State) : Host.Outcome State Fault Refusal :=
  match s.stc.write with
  | some { slot := i, second := b, job := .save c } =>
    if good then finish (saveEnds (checkpointGood i c s))
    else finish (writeBad { slot := i, second := b, job := .save c } s)
  | _ => .next s

/-- RESET_RELEASED: a released sample arms the detector (R184). -/
def execResetReleased (s : State) : Host.Outcome State Fault Refusal :=
  let s1 := s.setPins { s.pins with reset := false }
  if s.psv.power = .off then finish s1
  else finish (s1.setPsv { s1.psv with reset := s1.psv.reset.released })

/-- MAINS_OK_CHANGE_OUTSIDE_RUN: the level and the mains-stable count (R175, R173). -/
def execMainsOkChangeOutsideRun (high : Bool) (s : State) : Host.Outcome State Fault Refusal :=
  if high then finish (setMainsPin true s) else finish (mainsFalls false s)

end Sys2Proof.Machine
end

