-- ==== Sys2Proof/Machine/ExecStore.lean ====
section
/-! DEFINITION. The meanings of STC's commands (chapter 7). -/

namespace Sys2Proof.Machine

/-- ROUTINE_REQUEST_AGED: a ROUTINE request that has waited 60 s becomes URGENT (R156). -/
def execRoutineRequestAged (s : State) : Host.Outcome State Fault Refusal :=
  match s.stc.checkpointWaiting with
  | some r =>
    if r.urgent then .next s
    else
      let s1 := elapse (r.placed + Config.minuteTicks - s.now) s
      finish (s1.setStc { s1.stc with checkpointWaiting := some { r with urgent := true } })
  | none => .next s

/-- CHECKPOINT_WRITE_COMPLETE (R158); the end of a write that held step 2 of a repeated start back lets the steps go on (R185). -/
def execCheckpointWriteComplete (good : Bool) (s : State) : Host.Outcome State Fault Refusal :=
  match s.stc.write with
  | some { slot := i, second := b, job := .checkpoint c } =>
    if good then finish (resumeSteps (checkpointGood i c s))
    else finish (resumeSteps (writeBad { slot := i, second := b, job := .checkpoint c } s))
  | _ => .next s

/-- JOURNAL_WRITE_BAD (R158, R93). -/
def execJournalWriteBad (s : State) : Host.Outcome State Fault Refusal :=
  match s.stc.write with
  | some { slot := i, second := b, job := .journal e } =>
    finish (writeBad { slot := i, second := b, job := .journal e } s)
  | _ => .next s

end Sys2Proof.Machine
end

