-- ==== Sys2Proof/Machine/ExecSupply.lean ====
section
/-! DEFINITION. The meanings of SSC's commands (chapter 5). -/

namespace Sys2Proof.Machine

/-- WARNING_TIMEOUT (R108). -/
def execWarningTimeout (s : State) : Host.Outcome State Fault Refusal :=
  match s.ssc.state, s.ssc.warn with
  | .warning, some k => finish (enterOpening (elapse (Config.warningTicks - k) s))
  | _, _ => .next s

/-- RESERVOIR_READY_RISE: RESERVOIR_READY goes high, and a reservoir step ends and its pulse step begins (R115). A fall is noted, for the next reservoir step to wait on; it does not shorten a pulse and ends no settle (log entry 15). -/
def execReservoirReadyRise (s : State) (high : Bool := true) : Host.Outcome State Fault Refusal :=
  let s1 := s.setPins { s.pins with reservoirReady := high }
  match s.ssc.run with
  | some r =>
    if r.step = .reservoir ∧ high = true then
      finish (s1.setSsc { s1.ssc with run := some { r with step := .pulse, ticks := 0 } })
    else finish s1
  | none => finish s1

/-- RESERVOIR_TIMEOUT: the attempt fails with reason RESERVOIR (R115). -/
def execReservoirTimeout (s : State) : Host.Outcome State Fault Refusal :=
  match s.ssc.run with
  | some r =>
    if r.step = .reservoir then
      let s1 := elapse (Config.reservoirTicks - r.ticks) s
      let s2 := s1.setPins { s1.pins with reservoirReady := false }
      finish (endStepFour (attemptFails r .reservoir s2))
    else .next s
  | none => .next s

/-- DRIVE_PULSE_END: the settle step begins; an abandoned run ends with its pulse (R115, R185). -/
def execDrivePulseEnd (ready : Bool) (s : State) : Host.Outcome State Fault Refusal :=
  match s.ssc.run with
  | some r =>
    if r.step = .pulse then
      let s1 := elapse (Config.pulseTicks - r.ticks) s
      let s2 := s1.setPins { s1.pins with reservoirReady := ready }
      finish (s2.setSsc { s2.ssc with
        run := if r.abandoned then none else some { r with step := .settle, ticks := 0 } })
    else .next s
  | none => .next s

/-- LOAD_SENSE agrees with a direction: absent for an opening, present for a closing (R115). -/
def verified (dir : Direction) (present : Bool) : Bool :=
  match dir with
  | .toOpen => !present
  | .toClose => present

/-- SETTLE_END: LOAD_SENSE is sampled once and the attempt succeeds or fails with VERIFY (R115). -/
def execSettleEnd (s : State) : Host.Outcome State Fault Refusal :=
  match s.ssc.run with
  | some r =>
    if r.step = .settle then
      let s1 := elapse (Config.settleTicks - r.ticks) s
      finish (endStepFour
        (if verified r.dir s1.pins.loadSense then runSucceeds r.dir s1 else attemptFails r .verify s1))
    else .next s
  | none => .next s

/-- STUCK_RETRY_EXPIRY: a retry run with a cause present, the timer again without one (R118). -/
def execStuckRetryExpiry (s : State) : Host.Outcome State Fault Refusal :=
  match s.ssc.stuckRetry with
  | some k =>
    let s1 := elapse (Config.quarterTicks - k) s
    if s1.ssc.causes.isEmpty then finish (startStuckRetry s1)
    else finish (startRun .toOpen (s1.setSsc { s1.ssc with stuckRetry := none }))
  | none => .next s

/-- RESTORE_TIMEOUT: OVERLOAD is removed unless trips today is 3 (R123, R124). -/
def execRestoreTimeout (s : State) : Host.Outcome State Fault Refusal :=
  match s.ssc.restore with
  | some k =>
    let s1 := elapse (Config.minuteTicks - k) s
    let s2 := s1.setSsc { s1.ssc with restore := none }
    if s2.ssc.trips < 3 then finish (setCause .overload false s2) else finish s2
  | none => .next s

/-- TRIP_DAY_EXPIRY: the trip day resets while the clock is INVALID; while it is VALID the timer just stops (R124). -/
def execTripDayExpiry (s : State) : Host.Outcome State Fault Refusal :=
  match s.ssc.tripDay with
  | some k =>
    let s1 := elapse (Config.dayTicks - k) s
    if s1.ctu.clock.valid then finish (s1.setSsc { s1.ssc with tripDay := none }) else finish (resetTripDay s1)
  | none => .next s

/-- LOAD_SIDE_CHANGE: 5,120 consecutive samples of the other kind in OPEN (R120). -/
def execLoadSideChange (s : State) : Host.Outcome State Fault Refusal :=
  if s.sscLive && s.ssc.state == .opened && s.pins.loadSense != s.ssc.loadSide then
    let s1 := elapse (Config.loadTicks - s.ssc.loadCount) s
    let side := !s1.ssc.loadSide
    let s2 := s1.setSsc { s1.ssc with loadSide := side, loadCount := 0 }
    finish (report .conductingOpen { s2.tmn.views with loadSide := side } s2)
  else .next s

/-- The second step of a press: closing is judged (R122). -/
def pressCloses (s : State) : State :=
  match s.ssc.state with
  | .armed => enterClosing s
  | .stuckOpen => if s.ssc.causes.isEmpty then startRun .toClose s else s
  | _ => s

/-- A press taken while a drive run goes on is ignored as a whole (R121). -/
def Ssc.ignoresPress (x : Ssc) : Bool := x.state == .opening || x.state == .closing || x.run.isSome

/-- ACCEPT_PRESS: the 1,024th held sample in RUN while the detector is armed (R121, R122). Offered emergency credit is taken in every state that takes a press, CLOSED among them, by R122 and against the last sentence of R107 (DEDUCED, log entry 34). -/
def execAcceptPress (s : State) : Host.Outcome State Fault Refusal :=
  if s.psv.power = .run ∧ s.ssc.accept.armed = true then
    let s1 := elapse (1024 - s.ssc.accept.since) s
    let s2 := s1.setPins { s1.pins with accept := true }
    let s3 := s2.setSsc { s2.ssc with accept := s2.ssc.accept.fired 0 }
    if s3.ssc.ignoresPress then finish s3 else finish (pressCloses (takeEmergency s3))
  else .next s

/-- WARN_CYCLE: the buzzer's other half-cycle begins (R127). -/
def execWarnCycle (s : State) : Host.Outcome State Fault Refusal :=
  if s.ssc.warn.isSome then
    let s1 := elapse (512 - s.ssc.warnTicks) s
    finish (s1.setSsc { s1.ssc with warnOn := !s1.ssc.warnOn, warnTicks := 0 })
  else .next s

/-- STATE_LED_CYCLE: the next segment of the pattern begins (R128). -/
def execStateLedCycle (s : State) : Host.Outcome State Fault Refusal :=
  match ledSegmentTicks s.ssc.ledPattern s.ssc.ledSegment with
  | some k =>
    if s.psv.power.mainPowered then
      let s1 := elapse (k - s.ssc.ledTicks) s
      finish (s1.setSsc { s1.ssc with
        ledSegment := (s1.ssc.ledSegment + 1) % ledSegments s1.ssc.ledPattern, ledTicks := 0 })
    else .next s
  | none => .next s

/-- ACCEPT_RELEASED: a released sample in RUN arms the detector (R121). -/
def execAcceptReleased (s : State) : Host.Outcome State Fault Refusal :=
  let s1 := s.setPins { s.pins with accept := false }
  if s.psv.power = .run then finish (s1.setSsc { s1.ssc with accept := s1.ssc.accept.released })
  else finish s1

/-- LOAD_SENSE_OTHER_SAMPLE: LOAD_SENSE changes at this sample; in OPEN the count begins with it or goes back to 0 (R120). -/
def execLoadSenseOtherSample (present : Bool) (s : State) : Host.Outcome State Fault Refusal :=
  if present = s.pins.loadSense then .next s
  else
    let s1 := s.setPins { s.pins with loadSense := present }
    if s1.sscLive && s1.ssc.state == .opened then
      finish (s1.setSsc { s1.ssc with loadCount := if present = s1.ssc.loadSide then 0 else 1 })
    else finish s1

end Sys2Proof.Machine
end

