-- ==== Sys2Proof/Machine/ExecTamper.lean ====
section
/-! DEFINITION. The meanings of TMN's commands (chapter 6). -/

namespace Sys2Proof.Machine

/-- The one-shot of an input has run out: the level of the input at that sample is compared with the debounced level (R133). -/
def debounceEnds (sw : Switch) (s : State) : State :=
  let d := s.tmn.debounce sw
  let x := pinLevel s.pins sw
  let s1 := s.setTmn (s.tmn.setDebounce sw { d with shot := none, level := x })
  if x = d.level then s1 else switchLevel sw x s1

/-- DEBOUNCE_EXPIRY (R133). -/
def execDebounceExpiry (sw : Switch) (s : State) : Host.Outcome State Fault Refusal :=
  match (s.tmn.debounce sw).shot with
  | some k =>
    if s.debounceRuns then finish (debounceEnds sw (elapse (debounceTicks sw - k) s)) else .next s
  | none => .next s

/-- SWITCH_EDGE: a sample that differs from the one before starts the one-shot from 0 (R133). -/
def execSwitchEdge (sw : Switch) (high : Bool) (s : State) : Host.Outcome State Fault Refusal :=
  let s1 := s.setPins (setPinLevel s.pins sw high)
  let d := s.tmn.debounce sw
  if s.debounceRuns && d.last != high then
    finish (s1.setTmn (s1.tmn.setDebounce sw { d with last := high, shot := some 0 }))
  else finish s1

end Sys2Proof.Machine
end

