-- ==== Sys2Proof/Machine/Dispatch.lean ====
section
/-! DEFINITION. The dispatch of a command to its meaning, one arm per row of spec/opcode_table.json. -/

namespace Sys2Proof.Machine

/-- A command's effect on everything but the queue of waiting commands. -/
def exec (i : Instr) (s : State) : Host.Outcome State Fault Refusal :=
  match i with
  | .powerOn pins => Sys2Proof.Machine.execPowerOn pins s
  | .mainsOkFall => Sys2Proof.Machine.execMainsOkFall s
  | .mainsFailInStartup written => Sys2Proof.Machine.execMainsFailInStartup written s
  | .mainsStable => Sys2Proof.Machine.execMainsStable s
  | .vbatExhausted exhausted => Sys2Proof.Machine.execVbatExhausted s exhausted
  | .holdupPowerLoss written => Sys2Proof.Machine.execHoldupPowerLoss written s
  | .resetRequest => Sys2Proof.Machine.execResetRequest s
  | .saveComplete good => Sys2Proof.Machine.execSaveComplete good s
  | .linePulseAccepted reverse => Sys2Proof.Machine.execLinePulseAccepted reverse s
  | .returnPulseAccepted => Sys2Proof.Machine.execReturnPulseAccepted s
  | .noRecentPulse ch => Sys2Proof.Machine.execNoRecentPulse ch s
  | .flashSlotEnd => Sys2Proof.Machine.execFlashSlotEnd s
  | .windowExpiry => Sys2Proof.Machine.execWindowExpiry s
  | .clockSecond => Sys2Proof.Machine.execClockSecond s
  | .quarterTick => Sys2Proof.Machine.execQuarterTick s
  | .elapsedTickExpiry => Sys2Proof.Machine.execElapsedTickExpiry s
  | .routineRequestAged => Sys2Proof.Machine.execRoutineRequestAged s
  | .checkpointWriteComplete good => Sys2Proof.Machine.execCheckpointWriteComplete good s
  | .journalWriteBad => Sys2Proof.Machine.execJournalWriteBad s
  | .ident payload => Sys2Proof.Machine.execIdent payload s
  | .provision payload => Sys2Proof.Machine.execProvision payload s
  | .submit payload => Sys2Proof.Machine.execSubmit payload s
  | .lockoutEnd => Sys2Proof.Machine.execLockoutEnd s
  | .credit => Sys2Proof.Machine.execCredit s
  | .rate => Sys2Proof.Machine.execRate s
  | .switchPoint => Sys2Proof.Machine.execSwitchPoint s
  | .special => Sys2Proof.Machine.execSpecial s
  | .friendly => Sys2Proof.Machine.execFriendly s
  | .standing => Sys2Proof.Machine.execStanding s
  | .activate => Sys2Proof.Machine.execActivate s
  | .limit => Sys2Proof.Machine.execLimit s
  | .debt => Sys2Proof.Machine.execDebt s
  | .tamperClear => Sys2Proof.Machine.execTamperClear s
  | .policy => Sys2Proof.Machine.execPolicy s
  | .clock => Sys2Proof.Machine.execClock s
  | .keyHi => Sys2Proof.Machine.execKeyHi s
  | .keyLo => Sys2Proof.Machine.execKeyLo s
  | .supply => Sys2Proof.Machine.execSupply s
  | .snapshot payload => Sys2Proof.Machine.execSnapshot payload s
  | .readTariff payload => Sys2Proof.Machine.execReadTariff payload s
  | .readTamper payload => Sys2Proof.Machine.execReadTamper payload s
  | .readHistory payload => Sys2Proof.Machine.execReadHistory payload s
  | .readRedeemed payload => Sys2Proof.Machine.execReadRedeemed payload s
  | .readAlerts payload => Sys2Proof.Machine.execReadAlerts payload s
  | .clearAlerts payload => Sys2Proof.Machine.execClearAlerts payload s
  | .trimClock payload => Sys2Proof.Machine.execTrimClock payload s
  | .unknownRequest type payload => Sys2Proof.Machine.execUnknownRequest type payload s
  | .frameDiscard bytes => Sys2Proof.Machine.execFrameDiscard bytes s
  | .frameGapTimeout bytes => Sys2Proof.Machine.execFrameGapTimeout bytes s
  | .replySent => Sys2Proof.Machine.execReplySent s
  | .warningTimeout => Sys2Proof.Machine.execWarningTimeout s
  | .reservoirReadyRise high => Sys2Proof.Machine.execReservoirReadyRise s high
  | .reservoirTimeout => Sys2Proof.Machine.execReservoirTimeout s
  | .drivePulseEnd ready => Sys2Proof.Machine.execDrivePulseEnd ready s
  | .settleEnd => Sys2Proof.Machine.execSettleEnd s
  | .stuckRetryExpiry => Sys2Proof.Machine.execStuckRetryExpiry s
  | .restoreTimeout => Sys2Proof.Machine.execRestoreTimeout s
  | .tripDayExpiry => Sys2Proof.Machine.execTripDayExpiry s
  | .loadSideChange => Sys2Proof.Machine.execLoadSideChange s
  | .acceptPress => Sys2Proof.Machine.execAcceptPress s
  | .warnCycle => Sys2Proof.Machine.execWarnCycle s
  | .stateLedCycle => Sys2Proof.Machine.execStateLedCycle s
  | .debounceExpiry input => Sys2Proof.Machine.execDebounceExpiry input s
  | .channelRearmed ch => Sys2Proof.Machine.execChannelRearmed ch s
  | .acceptReleased => Sys2Proof.Machine.execAcceptReleased s
  | .resetReleased => Sys2Proof.Machine.execResetReleased s
  | .switchEdge input high => Sys2Proof.Machine.execSwitchEdge input high s
  | .loadSenseOtherSample present => Sys2Proof.Machine.execLoadSenseOtherSample present s
  | .mainsOkChangeOutsideRun high => Sys2Proof.Machine.execMainsOkChangeOutsideRun high s

end Sys2Proof.Machine
end

