-- ==== Sys2Proof/Machine/Time.lean ====
section
/-! DEFINITION. What the part does when no command waits: the timed events that are due, and the passing of a tick (log entries 3 and 8). -/

namespace Sys2Proof.Machine

/-- A command where a condition holds. -/
def dueIf (c : Bool) (i : Instr) : List Instr := if c then [i] else []

/-- A timer has reached its length. -/
def ripe (len : Nat) (t : Option Nat) : Bool :=
  match t with
  | some k => decide (len ≤ k)
  | none => false

/-- An instant of the timebase has come. -/
def reached (now : Nat) (t : Option Nat) : Bool :=
  match t with
  | some k => decide (k ≤ now)
  | none => false

/-- A drive run has a step whose time is up. -/
def runRipe (st : DriveStep) (s : State) : Bool :=
  match s.ssc.run with
  | some r => r.step == st && decide (st.length ≤ r.ticks)
  | none => false

/-- Step 1 or BATTERY waits for a stable mains and has it (R175, R178, R185). -/
def stableDue (s : State) : Bool :=
  s.pins.mainsOk && decide (Config.stableTicks ≤ s.psv.stable) &&
    (match s.psv.power with
     | .battery => true
     | .startup 1 _ => s.stc.write.isNone
     | _ => false)

/-- PSV's and the detectors' due events. A detector that waits for a released sample finds ACCEPT and RESET at the level last told, and no command tells either held outside a press or a request that is taken (DESIGN CHOICE, log entry 28). -/
def duePower (s : State) : List Instr :=
  dueIf (stableDue s) .mainsStable ++
    dueIf (s.psv.power != .off && !s.psv.reset.armed && !s.pins.reset && decide (1 ≤ s.psv.reset.since))
      .resetReleased ++
    dueIf (s.psv.power == .run && !s.ssc.accept.armed && !s.pins.accept && decide (1 ≤ s.ssc.accept.since))
      .acceptReleased

/-- MIU's due events. -/
def dueMetering (s : State) : List Instr :=
  dueIf (reached s.now (s.miu.line.lastAt.map (· + Config.quietTicks))) (.noRecentPulse .line) ++
    dueIf (reached s.now (s.miu.ret.lastAt.map (· + Config.quietTicks))) (.noRecentPulse .ret) ++
    dueIf (ripe Config.flashTicks s.miu.flashSlot) .flashSlotEnd ++
    dueIf (reached s.now (s.miu.window.map fun w => w.start + Config.minuteTicks)) .windowExpiry

/-- CTU's due events. -/
def dueCalendar (s : State) : List Instr :=
  dueIf (s.ctu.clock.valid && decide (1024 ≤ s.ctu.clock.sub)) .clockSecond ++
    dueIf s.ctu.issued.isSome .quarterTick ++
    dueIf (ripe Config.quarterTicks s.ctu.elapsed) .elapsedTickExpiry

/-- STC's, CRU's and LKP's due events. -/
def dueStore (s : State) : List Instr :=
  dueIf (match s.stc.checkpointWaiting with
      | some r => !r.urgent && decide (r.placed + Config.minuteTicks ≤ s.now)
      | none => false) .routineRequestAged ++
    dueIf (reached s.now s.cru.lockEnd) .lockoutEnd ++
    dueIf (s.psv.power.mainPowered && s.gapOver) (.frameGapTimeout [])

/-- SSC's due events; a pulse that ends finds RESERVOIR_READY at the level last told. -/
def dueSupply (s : State) : List Instr :=
  dueIf (s.ssc.state == .warning && ripe Config.warningTicks s.ssc.warn) .warningTimeout ++
    dueIf (runRipe .reservoir s) .reservoirTimeout ++
    dueIf (runRipe .pulse s) (.drivePulseEnd s.pins.reservoirReady) ++
    dueIf (runRipe .settle s) .settleEnd ++
    dueIf (ripe Config.quarterTicks s.ssc.stuckRetry) .stuckRetryExpiry ++
    dueIf (ripe Config.minuteTicks s.ssc.restore) .restoreTimeout ++
    dueIf (ripe Config.dayTicks s.ssc.tripDay) .tripDayExpiry ++
    dueIf (s.sscLive && s.ssc.state == .opened && s.pins.loadSense != s.ssc.loadSide &&
      decide (Config.loadTicks ≤ s.ssc.loadCount)) .loadSideChange ++
    dueIf (s.ssc.warn.isSome && decide (512 ≤ s.ssc.warnTicks)) .warnCycle ++
    dueIf (s.psv.power.mainPowered && (match ledSegmentTicks s.ssc.ledPattern s.ssc.ledSegment with
      | some k => decide (k ≤ s.ssc.ledTicks)
      | none => false)) .stateLedCycle

/-- TMN's due events. -/
def dueTamper (s : State) : List Instr :=
  dueIf (s.debounceRuns && ripe 512 s.tmn.cover.shot) (.debounceExpiry .cover) ++
    dueIf (s.debounceRuns && ripe 512 s.tmn.terminal.shot) (.debounceExpiry .terminal) ++
    dueIf (s.debounceRuns && ripe 2048 s.tmn.magnet.shot) (.debounceExpiry .magnet)

/-- The timed events that are due. -/
def dueEvents (s : State) : List Instr :=
  duePower s ++ dueMetering s ++ dueCalendar s ++ dueStore s ++ dueSupply s ++ dueTamper s

/-- With no command waiting, a due event is taken up, the free value saying which of several; with none due, a tick passes. -/
def idle (s : State) : State :=
  match dueEvents s with
  | [] => elapse 1 s
  | c :: l => s.setPending [(c :: l).getD (Config.dueChoice s.now (c :: l).length % (c :: l).length) c]

end Sys2Proof.Machine
end

