-- ==== Sys2Proof/Safety.lean ====
section
/-! DEFINITION. What counts as a sound state and a sound step, in the terms the statements use. -/

namespace Sys2Proof.Machine

/-! ### The store's requests (R157) -/

/-- No request waits that the arbiter could take: a write is in flight, or nothing waits. -/
def storeAtRest (s : State) : Bool :=
  s.stc.write.isSome ||
    (s.stc.saveWaiting.isNone && s.stc.journalWaiting.isNone && s.stc.checkpointWaiting.isNone)

/-- Only a commissioned part has a SAVE or a checkpoint request waiting (R166, R186). -/
def requestsOwned (s : State) : Bool :=
  s.comm.isSome || (s.stc.saveWaiting.isNone && s.stc.checkpointWaiting.isNone)

/-- Between commands the arbiter has left no request waiting on a free write path (R157). -/
def storeTidy (s : State) : Bool := storeAtRest s && requestsOwned s

/-- How the store stands after a command that placed a checkpoint request, from how it stood before: dropped, merged behind the write in flight, or taken at once with the content as the command leaves it (R153 to R157). Where no slot can be written the request ends as a failed write. -/
def checkpointAsked (urgent : Bool) (s t : State) : Prop :=
  if s.storeTaking = false ∨ s.stc.saving = true then t.stc = s.stc
  else if s.stc.write.isSome then
    t.stc = { s.stc with checkpointWaiting := some (mergeRequest urgent t.now s.stc.checkpointWaiting) }
  else
    match s.stc.checkpointSlot, s.comm with
    | some i, some k => t.stc = s.stc.started (.checkpoint (capture k (t.setStc s.stc))) i false
    | _, _ => t.stc = s.stc

/-! ### The account (R24, R25) -/

/-- An account keeps its laws: C is between the floor and its cap, and it is the credit applied total less the balance charges total until one of them saturates. -/
def Ace.lawful (a : Ace) : Bool :=
  decide (a.floor ≤ a.c) && decide (a.c ≤ Config.balanceMax) &&
    decide (a.creditApplied ≤ Config.totalMax) && decide (a.balanceCharges ≤ Config.totalMax) &&
    (decide (a.creditApplied = Config.totalMax) || decide (a.balanceCharges = Config.totalMax) ||
      decide (a.c = (a.creditApplied : Int) - a.balanceCharges))

/-- The content of a slot that holds a record. -/
def Slot.content {α : Type} : Slot α → Option α
  | .holding r => some r
  | _ => none

/-- The content that a write in flight carries to the checkpoint ring. -/
def WriteJob.content : WriteJob → Option Checkpoint
  | .journal _ => none
  | .checkpoint c => some c
  | .save c => some c

/-- Every checkpoint the part holds: those in the ring and the one being written. -/
def State.checkpoints (s : State) : List Checkpoint :=
  s.stc.checkpoints.toList.filterMap Slot.content ++ (s.stc.write.bind (·.job.content)).toList

/-- ACE's account and that of every checkpoint held keep their laws. -/
def accountsLawful (s : State) : Bool := s.ace.lawful && s.checkpoints.all (·.ace.lawful)

/-- CREDIT is in the cause set exactly while C is at or below the floor (R33). -/
def creditTrue (s : State) : Bool := s.ssc.causes.credit == decide (s.ace.c ≤ s.ace.floor)

/-! ### Bounded lists (R143, R191) -/

/-- The history ring, here and in every checkpoint held, has at most 32 events, and the outbox at most 4 replies. -/
def listsBounded (s : State) : Bool :=
  decide (s.tmn.history.length ≤ 32) && decide (s.lkp.outbox.length ≤ 4) &&
    s.checkpoints.all fun c => decide (c.history.length ≤ 32)

/-! ### Drive runs (R106, R115) -/

/-- The states in which a run of a direction may go on (R110, R114, R118, R119). -/
def runBelongs (dir : Direction) (st : SupplyState) : Bool :=
  match dir with
  | .toOpen => st == .opening || st == .stuckClosed
  | .toClose => st == .closing || st == .stuckOpen

/-- A drive run is at attempt 1 to 3, in a state of its direction unless a RESET abandoned it to its coil pulse, and the stuck retry timer runs in STUCK_CLOSED only. -/
def drivesSound (s : State) : Bool :=
  (match s.ssc.run with
   | none => true
   | some r =>
     decide (1 ≤ r.attempt) && decide (r.attempt ≤ 3) &&
       (if r.abandoned then r.step == .pulse else runBelongs r.dir s.ssc.state)) &&
    (s.ssc.stuckRetry.isNone || s.ssc.state == .stuckClosed)

/-! ### CONDUCTING_OPEN's two sides (R135) -/

/-- Where a side of CONDUCTING_OPEN is reported active, the kind's condition is. -/
def conductingSettled (s : State) : Bool :=
  !(s.tmn.views.pulseSide || s.tmn.views.loadSide) || s.tmn.records[5].active

/-! ### OPEN kept by a cause -/

/-- A cause stands that keeps the supply in OPEN: REMOTE, OVERLOAD, TAMPER with a record that wants it, or CREDIT with C at or below the floor (R33, R111, R138). -/
def heldOpen (s : State) : Bool :=
  s.ssc.causes.remote || s.ssc.causes.overload || (s.ssc.causes.tamper && wantsTamper s.tmn.records) ||
    (s.ssc.causes.credit && decide (s.ace.c ≤ s.ace.floor))

/-! ### Requests on the link -/

/-- The link can take a request and answer it at once: RUN, the assembler in HUNT, no request in service, room in the outbox; and the store at rest. -/
def linkReady (s : State) : Bool :=
  s.psv.power == .run && s.lkp.rx.state == .hunt && s.lkp.inService.isNone &&
    decide (s.lkp.outbox.length < 4) && storeAtRest s

/-- `s` once a whole frame has come in and its reply stands last in the outbox. -/
def replied (r : Reply) (s : State) : State :=
  let h := setRx .hunt s
  h.setLkp { h.lkp with outbox := h.lkp.outbox ++ [r] }

/-- The type byte and the payload of a command that is a whole frame on the link. -/
def requestOf : Instr → Option (Byte × List Byte)
  | .ident p => some (1#8, p)
  | .provision p => some (2#8, p)
  | .submit p => some (3#8, p)
  | .snapshot p => some (4#8, p)
  | .readTariff p => some (5#8, p)
  | .trimClock p => some (6#8, p)
  | .readTamper p => some (7#8, p)
  | .readHistory p => some (8#8, p)
  | .readRedeemed p => some (9#8, p)
  | .readAlerts p => some (10#8, p)
  | .clearAlerts p => some (11#8, p)
  | .unknownRequest type p => some (type, p)
  | _ => none

/-- The number that `n` bytes at an offset of a payload spell (Formats). -/
def slice (p : List Byte) (off n : Nat) : Nat := ofBe ((p.drop off).take n)

/-- An alert is present and unseen. -/
def unseen (a : Alert) (s : State) : Bool := s.lkp.alerts[a.idx] == .unseen

/-! ### Codes as the issuing system makes them (section 4.4, "Making a code") -/

/-- The plain value of a code, its check field included. -/
def plainOf (cls seq : Nat) (payload : BitVec 32) : BitVec 72 :=
  BitVec.ofNat 72 ((cls * 2 ^ 48 + seq * 2 ^ 32 + payload.toNat) * 2 ^ 20 + checkOf cls seq payload)

/-- A number as 22 ASCII digits with leading zeros. -/
def codeDigits (v : BitVec 72) : List Byte :=
  (List.range 22).map fun i => BitVec.ofNat 8 (48 + v.toNat / 10 ^ (21 - i) % 10)

/-- The digits of a code made under a key. -/
def issuedCode (key : BitVec 64) (cls seq : Nat) (payload : BitVec 32) : List Byte :=
  codeDigits (scramble key (plainOf cls seq payload))

/-- The command that takes the good end of a journal write of a class (R92). -/
def classCommand : Nat → Option Instr
  | 0 => some .credit
  | 1 => some .rate
  | 2 => some .switchPoint
  | 3 => some .special
  | 4 => some .friendly
  | 5 => some .activate
  | 6 => some .standing
  | 7 => some .limit
  | 8 => some .debt
  | 9 => some .tamperClear
  | 10 => some .policy
  | 11 => some .clock
  | 12 => some .keyHi
  | 13 => some .keyLo
  | 14 => some .supply
  | _ => none

/-- The journal write of an entry is in flight in a slot, and its completion can be taken: the part runs, the outbox has room, and no fourth unfolded entry asks for a checkpoint. -/
def commitReady (s : State) (slot : Nat) (e : JournalEntry) : Bool :=
  s.psv.power == .run && s.commissioned && decide (s.stc.write.map (·.slot) = some slot) &&
    decide (s.stc.write.map (·.job) = some (.journal e)) && decide (s.lkp.outbox.length < 4) &&
    s.stc.saveWaiting.isNone && s.stc.journalWaiting.isNone && s.stc.checkpointWaiting.isNone &&
    decide (s.stc.unfolded.length < 3)

/-- The journal write of an entry is in flight in a slot, and its good end can be taken: in RUN, whether or not it leaves a fourth entry unfolded, or in HOLDUP, where a slot is there for the SAVE that waits (without one PSV would leave HOLDUP at once). -/
def commitTaken (s : State) (slot : Nat) (e : JournalEntry) : Bool :=
  s.commissioned && decide (s.stc.write.map (·.slot) = some slot) &&
    decide (s.stc.write.map (·.job) = some (.journal e)) && decide (s.lkp.outbox.length < 4) &&
    s.stc.journalWaiting.isNone &&
    ((s.psv.power == .run && s.stc.saveWaiting.isNone) ||
      (s.psv.power == .holdup && s.stc.checkpointSlot.isSome))

/-! ### A start of a commissioned part (R131, R132, R149, R182) -/

/-- The state in which SSC settles by the cause set, as in RUN, and the direction of the drive run that this starts, if any (R107 to R113). -/
def judgedSupply (k : Causes) (emptying : Option Cause) (waiver friendly : Bool) :
    SupplyState → SupplyState × Option Direction
  | .closed | .warning | .deferred =>
    if k.beyondCredit then (.opening, some .toOpen)
    else if k.credit then (if friendly then .deferred else .warning, none)
    else (.closed, none)
  | .opened =>
    if k.isEmpty then (if waiver ∨ emptying = some .remote then (.closing, some .toClose) else (.armed, none))
    else (.opened, none)
  | .armed => (if k.isEmpty then .armed else .opened, none)
  | st => (st, none)

/-- The table of R132: the state that step 4's comparison leaves, from the intended state and LOAD_SENSE, and the drive run that goes on in it, if any. -/
def comparedSupply (k : Causes) (emptying : Option Cause) (waiver friendly present : Bool) (st : SupplyState) :
    SupplyState × Option Direction :=
  let judged := judgedSupply k emptying waiver friendly
  match st, present with
  | .closed, false | .warning, false | .deferred, false | .closing, false => (.closing, some .toClose)
  | .closing, true => judged .closed
  | .opened, true | .armed, true | .opening, true => (.opening, some .toOpen)
  | .opening, false | .stuckClosed, false => judged .opened
  | .stuckClosed, true => (.stuckClosed, if k.isEmpty then none else some .toOpen)
  | st, _ => judged st

/-- The emptying cause of a restored set that has become empty: a cause that left it at the start is the last that left, OVERLOAD at a catch-up tick after TAMPER and CREDIT at the end of step 2 (R105, R48, R138, R124). -/
def Checkpoint.lastLeft (c : Checkpoint) : Option Cause :=
  if c.causes.isEmpty then c.emptying
  else if c.causes.overload then some .overload
  else if c.causes.tamper then some .tamper
  else some .credit

/-- A record brought into line with its source view at the end of step 3 (R149). -/
def KindRecord.reconciled (view : Bool) (time : Stamp) (r : KindRecord) : KindRecord :=
  if view && !r.active then r.occurred time none
  else if r.active && !view then { r with active := false, side := none }
  else r

/-- A restored state is one of the two in which SWITCH_FAULT is active (R149). -/
def SupplyState.stuck (st : SupplyState) : Bool := st == .stuckClosed || st == .stuckOpen

/-- TMN's records as the end of step 3 leaves them, from those it works on: SWITCH_FAULT by the restored supply state, CODE_FLOOD by the restored lockout, kinds 3 to 5 by views that start inactive (R149); SWITCH_FAULT falls again where step 4 finds the stuck contactor open (R118, R132). -/
def recordsAtStart (c : Checkpoint) (present : Bool) (time : Stamp) (v : Vector KindRecord 8) : Vector KindRecord 8 :=
  Vector.ofFn fun i : Fin 8 =>
    match i with
    | 3 | 4 | 5 => v[i].reconciled false time
    | 6 =>
      let r := v[i].reconciled c.supply.stuck time
      if c.supply = .stuckClosed ∧ present = false then { r with active := false, side := none } else r
    | 7 => v[i].reconciled c.lockLeft.isSome time
    | _ => v[i]

/-- The history as the end of step 3 leaves it: the occurrences of the reconciliation, SWITCH_FAULT's below CODE_FLOOD's (R149; the order is log entry 35). -/
def historyAtStart (c : Checkpoint) (time : Stamp) (v : Vector KindRecord 8) (l : List Event) : List Event :=
  (if c.lockLeft.isSome ∧ v[7].active = false then [{ time := time, kind := .tamperOn .codeFlood none }] else []) ++
    (if c.supply.stuck ∧ v[6].active = false then [{ time := time, kind := .tamperOn .switchFault none }] else []) ++ l

/-- The alert set once RUN is entered, over the set that the start began with: RESTART, and each alert whose condition stands then (R182, R205). -/
def startAlertsRaised (before : Vector AlertMark 9) (t : State) : Prop :=
  ∀ a : Alert, t.lkp.alerts[a.idx] =
    if a = .restart ∨ (a = .clock ∧ t.ctu.clock.valid = false) ∨ (a = .store ∧ t.stc.health ≠ .good) ∨
        (a = .tamper ∧ anyLatched t.tmn.records = true) ∨ (a = .lowCredit ∧ t.ace.isLow = true) then .unseen
    else before[a.idx]

/-- How a start of a commissioned part ends, from the records and the history that step 3 began with and the causes, trips and friendly flag that it ended with: the comparison and the state it leaves (R132), the reconciled records (R149), and, where no drive run goes on, RUN with its timers, its alerts, its first window and POWER_UP (R20, R182); where one goes on, step 4 lasts, with no alert and no window. -/
def startEnds (c : Checkpoint) (kind : StartKind) (k : Causes) (trips : Nat) (records : Vector KindRecord 8)
    (history : List Event) (before : Vector AlertMark 9) (pins : Pins) (heldLine heldRet : Nat) (t : State) : Prop :=
  let v := comparedSupply k c.lastLeft c.waiver t.ctu.friendly pins.loadSense c.supply
  let events := historyAtStart c t.stamp records history
  t.tmn.records = recordsAtStart c pins.loadSense t.stamp records ∧ t.tmn.mark = false ∧ t.ssc.trips = trips ∧
  t.miu.view = some t.ssc.state ∧ t.ssc.accept.armed = false ∧
  (v.2 ≠ none ∨ heldLine = 0 →
    t.ssc.state = v.1 ∧ t.ssc.causes = k ∧
    t.ssc.run = v.2.map (fun dir =>
      { dir := dir, attempt := 1, step := if pins.reservoirReady then .pulse else .reservoir, ticks := 0
        lastFail := none, abandoned := false }) ∧
    t.ssc.warn = (if v.1 = .warning then some 0 else none) ∧
    t.ssc.waiver = (c.waiver && !(v.1 != c.supply && (v.1 == .opening || v.1 == .closing)))) ∧
  (v.2 = none →
    t.psv.power = .run ∧ t.miu.line.held = 0 ∧ t.miu.ret.held = 0 ∧
    t.miu.window = some
      { start := t.now, nL := heldLine, nR := heldRet, rev := 0, openThroughout := t.miu.view == some .opened } ∧
    t.tmn.history = ({ time := t.stamp, kind := .powerUp kind } :: events).take 32 ∧
    t.ctu.elapsed = (if t.ctu.clock.valid then none else some 0) ∧
    t.ssc.restore = (if k.overload then some 0 else none) ∧ t.ssc.tripDay = (if 0 < trips then some 0 else none) ∧
    t.ssc.stuckRetry = (if t.ssc.state = .stuckClosed then some 0 else none) ∧
    (heldLine = 0 → startAlertsRaised before t)) ∧
  (v.2 ≠ none →
    t.psv.power = .startup 4 kind ∧ t.miu.line.held = heldLine ∧ t.miu.ret.held = heldRet ∧
    t.tmn.history.take 32 = events.take 32 ∧ t.ctu.elapsed = none ∧ t.ssc.restore = none ∧ t.ssc.tripDay = none ∧
    t.ssc.stuckRetry = none ∧ t.lkp.alerts = before)

/-! ### Replay at a start (R101) -/

/-- CRU after the replay of an entry: the record and H as at commit, the rejection run cleared, and the halves of the key (R83, R99 to R101). -/
def Cru.replayed (c : Cru) (e : JournalEntry) : Cru :=
  let c1 := c.record e
  match parseAction e.cls e.payload with
  | some (.keyHi half) => { c1 with staged := some half }
  | some (.keyLo half) =>
    match c1.staged with
    | some hi => c1.rekeyed hi half
    | none => c1
  | _ => c1

/-- The account after the replay of an entry, but for the judgement of OFFERED (R37, R42 to R44, R71, R101). -/
def Ace.replayed (a : Ace) (e : JournalEntry) : Ace :=
  match parseAction e.cls e.payload with
  | some (.credit amount) =>
    let x := a.credited amount
    { x with em := if 0 ≤ x.c then .unavailable else x.em }
  | some (.limit 0 v) => { a with cmax := v * 10000 }
  | some (.limit 1 v) => { a with e := v * 10000 }
  | some (.limit 2 v) => { a with lc := v * 10000 }
  | some (.debt share units) => { a with b := units * 10000, share := share }
  | some (.clock secs) => { a with lastQ := absQuarterOf secs }
  | _ => a

/-- The account with its emergency state judged, where no advance is in use (R40). -/
def Ace.judgedOffer (a : Ace) : Ace :=
  match a.em with
  | .inUse _ => a
  | _ => { a with em := a.offer }

/-- The tariffs once a schedule whose quarter is reached has been carried out (R71). -/
def Ctu.reached (q : Nat) (c : Ctu) : Ctu :=
  match c.pending with
  | .scheduled t (.quarter x) => if x ≤ q then { c with active := t, pending := .none } else c
  | _ => c

/-- The tariffs after the replay of an entry: an edit or ACTIVATE after a schedule that its recorded clock had reached, a CLOCK before one that its own seconds reach (R71). -/
def Ctu.replayed (c : Ctu) (e : JournalEntry) : Ctu :=
  let c1 := match e.time with
    | .secs r => if 1 ≤ e.cls ∧ e.cls ≤ 6 then c.reached (absQuarterOf r) else c
    | .clockInvalid => c
  match parseAction e.cls e.payload with
  | some (.clock secs) => c1.reached (absQuarterOf secs)
  | some (.activate day) => (schedulePending (targetOf day e.time) c1).2
  | some a => if 1 ≤ e.cls ∧ e.cls ≤ 6 then (editPending (tariffEdit a) c1).2 else c1
  | none => c1

/-! ### HOLDUP (R172) -/

/-- HOLDUP as PSV enters it on a commissioned part, from the state in which it takes the loss of mains or the RESET (R172, R161, R94). -/
def heldUp (k : Commission) (u t : State) : Prop :=
  t.psv = { u.psv with power := .holdup } ∧ t.pins = u.pins ∧ t.now = u.now ∧ t.comm = u.comm ∧
  t.miu = u.miu ∧ t.ace = u.ace ∧ t.ctu = u.ctu ∧ t.ssc = u.ssc ∧
  t.tmn = { u.tmn with history := pushEvent { time := u.stamp, kind := .powerDown } u.tmn.history } ∧
  t.cru = (if u.stc.journalWaiting.isSome then { u.cru with inFlight := none } else u.cru) ∧
  t.lkp.alerts = u.lkp.alerts ∧
  (u.stc.journalWaiting.isSome = true → u.lkp.outbox.length < 4 →
    t.lkp.outbox = u.lkp.outbox ++ [{ status := .notReady, type := 3, payload := [1#8, 3#8, 0#8] }] ∧
    t.lkp.inService = none) ∧
  (u.stc.journalWaiting = none → t.lkp = u.lkp) ∧
  t.stc.journalWaiting = none ∧ t.stc.checkpointWaiting = none ∧ t.stc.journal = u.stc.journal ∧
  t.stc.unfolded = u.stc.unfolded ∧ t.stc.newest = u.stc.newest ∧
  (u.stc.write.isSome = true →
    t.stc.write = u.stc.write ∧ t.stc.saveWaiting = some u.now ∧ t.stc.checkpoints = u.stc.checkpoints) ∧
  (u.stc.write = none → ∃ i, u.stc.checkpointSlot = some i ∧ t.stc.saveWaiting = none ∧
    t.stc.write = some { slot := i, second := false, job := .save (capture k (t.setStc u.stc)) })

/-! ### Redeemed list (R83) -/

/-- The redeemed list keeps its window: strictly ascending, each record within H − 31..H, and empty without H. -/
def Cru.windowed (c : Cru) : Prop :=
  c.redeemed.Pairwise (fun a b => a.seq < b.seq) ∧
  match c.h with
  | none => c.redeemed = []
  | some h => ∀ r ∈ c.redeemed, r.seq ≤ h ∧ h < r.seq + 32

end Sys2Proof.Machine
end

