-- ==== Sys2Proof/WellFormed.lean ====
section
/-! DEFINITION. Which commands are well formed: the operands that the manual's steps admit. A row without a check here admits every operand of its type. -/

namespace Sys2Proof

/-- A request's payload fits a frame, 0 to 60 bytes (R188). -/
def payloadFits (payload : List Byte) : Bool := decide (payload.length ≤ 60)

/-- Where received bytes take the assembler from HUNT: its state, and what the last byte made; a byte with a low stop bit discards (R188, R189). None where a frame is complete before the end. -/
def rxTrace : Machine.RxState → List RxByte → Option (Machine.RxState × Machine.RxResult)
  | st, [] => some (st, .more)
  | st, b :: rest =>
    let r : Machine.RxState × Machine.RxResult :=
      if b.stopOk then Machine.rxByte st b.value
      else (.hunt, if st = .hunt then .more else .discard)
    match r.2 with
    | .complete _ _ => none
    | x => if rest.isEmpty then some (r.1, x) else rxTrace r.1 rest

/-- The bytes are a frame that the assembler discards at the last of them (R189). -/
def discarded (bytes : List RxByte) : Bool :=
  match rxTrace .hunt bytes with
  | some (_, .discard) => true
  | _ => false

/-- The bytes leave the assembler inside a frame (R189). -/
def insideFrame (bytes : List RxByte) : Bool :=
  match rxTrace .hunt bytes with
  | some (.hunt, _) => false
  | some _ => true
  | none => false

/-- A type byte that names none of the eleven requests (R190). -/
def namesNoRequest (type : Byte) : Bool := decide (type.toNat = 0) || decide (11 < type.toNat)

/-- The well-formed commands. -/
def Instr.wf : Instr → Bool
  | .ident payload => payloadFits payload
  | .provision payload => payloadFits payload
  | .submit payload => payloadFits payload
  | .snapshot payload => payloadFits payload
  | .readTariff payload => payloadFits payload
  | .readTamper payload => payloadFits payload
  | .readHistory payload => payloadFits payload
  | .readRedeemed payload => payloadFits payload
  | .readAlerts payload => payloadFits payload
  | .clearAlerts payload => payloadFits payload
  | .trimClock payload => payloadFits payload
  | .unknownRequest type payload => payloadFits payload && namesNoRequest type
  | .frameDiscard bytes => discarded bytes
  | .frameGapTimeout bytes => bytes.isEmpty || insideFrame bytes
  | .powerOn _ | .mainsOkFall | .mainsFailInStartup _ | .mainsStable | .vbatExhausted _ | .holdupPowerLoss _
  | .resetRequest | .saveComplete _ | .linePulseAccepted _ | .returnPulseAccepted | .noRecentPulse _
  | .flashSlotEnd | .windowExpiry | .clockSecond | .quarterTick | .elapsedTickExpiry | .routineRequestAged
  | .checkpointWriteComplete _ | .journalWriteBad | .lockoutEnd | .credit | .rate | .switchPoint | .special
  | .friendly | .standing | .activate | .limit | .debt | .tamperClear | .policy | .clock | .keyHi | .keyLo
  | .supply | .replySent | .warningTimeout | .reservoirReadyRise _ | .reservoirTimeout | .drivePulseEnd _
  | .settleEnd | .stuckRetryExpiry | .restoreTimeout | .tripDayExpiry | .loadSideChange | .acceptPress
  | .warnCycle | .stateLedCycle | .debounceExpiry _ | .channelRearmed _ | .acceptReleased | .resetReleased
  | .switchEdge _ _ | .loadSenseOtherSample _ | .mainsOkChangeOutsideRun _ => true

end Sys2Proof
end

