-- ==== Sys2Proof/Certificates/Slice0/Obligations.lean ====
section
/-! DEFINITION. The statements for the provers. Each docstring names the rules of spec/ a statement rests on, or the log entry of a choice of the model. -/

section

open Sys2Proof Sys2Proof.Machine

/-! ### The machine -/

/-- The command at the front of the queue is run by `exec` on the state with the queue's rest (log entry 1). -/
def Obligations.StepRunsFrontCommand : Prop :=
  ∀ (c : Instr) (rest : List Instr) (s : State), s.pending = c :: rest → step s = exec c (s.setPending rest)

/-- With no command waiting, a step takes up an event that is due, or lets a tick pass where none is (the model's choice, log entries 3 and 8). -/
def Obligations.IdleStepTakesDueEventOrTick : Prop :=
  ∀ s : State, s.pending = [] →
    (dueEvents s = [] ∧ step s = .next (elapse 1 s)) ∨
    ∃ c ∈ dueEvents s, step s = .next (s.setPending [c])

/-- Every command completes: the manual gives none an end in a fault. It never touches the queue of waiting commands. That a command completes also where the part's state cannot give its event is the model's own: log entries 9 and 11. -/
def Obligations.EveryCommandCompletes : Prop :=
  ∀ (c : Instr) (s : State), ∃ t, exec c s = .next t ∧ t.pending = s.pending

/-! ### Invariants of every step -/

/-- Every step leaves the arbiter at rest (R157). -/
def Obligations.StepKeepsStoreTidy : Prop :=
  ∀ s t : State, storeTidy s = true → step s = .next t → storeTidy t = true

/-- Every step keeps the laws of the account, in ACE and in every checkpoint held (R24, R25, R47, R153). -/
def Obligations.StepKeepsAccountsLawful : Prop :=
  ∀ s t : State, accountsLawful s = true → step s = .next t → accountsLawful t = true

/-- Every step leaves CREDIT in the cause set exactly while C is at or below the floor (R33, R46, R48). -/
def Obligations.StepKeepsCreditTrue : Prop :=
  ∀ s t : State, creditTrue s = true → step s = .next t → creditTrue t = true

/-- Every step keeps the history ring at 32 events and the outbox at 4 replies (R143, R191). -/
def Obligations.StepKeepsListsBounded : Prop :=
  ∀ s t : State, listsBounded s = true → step s = .next t → listsBounded t = true

/-- Every step keeps a drive run at attempt 1 to 3 in a state of its direction, and the stuck retry timer in STUCK_CLOSED (R110, R114, R115, R118, R119, R185). -/
def Obligations.StepKeepsDrivesSound : Prop :=
  ∀ s t : State, drivesSound s = true → step s = .next t → drivesSound t = true

/-- The part right after reset meets every invariant above. The model's own conventions in it: log entry 30. -/
def Obligations.ResetMeetsTheInvariants : Prop :=
  storeTidy State.reset = true ∧ accountsLawful State.reset = true ∧ creditTrue State.reset = true ∧
    listsBounded State.reset = true ∧ drivesSound State.reset = true

/-! ### Frames and codes -/

/-- The assembler reads a frame of any type and payload back whole, at its last byte and no sooner (R188, section 10.1). -/
def Obligations.LinkFrameRoundTrip : Prop :=
  ∀ (t : Byte) (p : List Byte), p.length ≤ 60 →
    rxBytes .hunt (frame t p) = (.hunt, .complete t p) ∧
    ∀ n < (frame t p).length, (rxBytes .hunt ((frame t p).take n)).2 = .more

/-- A code made as section 4.4 says reads back under the same key to its fields, with the check field that they must carry (R78 to R80). -/
def Obligations.IssuedCodeRoundTrip : Prop :=
  ∀ (key : BitVec 64) (cls seq : Nat) (payload : BitVec 32), cls < 16 → seq < 65536 →
    (issuedCode key cls seq payload).length = 22 ∧
    ∃ v, parseDigits (issuedCode key cls seq payload) = some v ∧
      cutPlain (unscramble key v) =
        { cls := cls, seq := seq, payload := payload, check := checkOf cls seq payload }

/-! ### Calendar -/

/-- The band of a quarter (R57): of the day's profile, the switch point with the greatest quarter at or before it, the highest slot of several; else the greatest of the whole profile; else band 0. -/
def Obligations.BandFollowsTheSwitchPoints : Prop :=
  ∀ (t : Tariff) (day x : Nat), (∀ p ∈ t.switches.toList, ∀ q, p.quarter = some q → q ≤ 95) →
    let l := (t.switches.toList.drop
      (if weekdayOf day = 5 ∨ weekdayOf day = 6 ∨ some day ∈ t.specials.toList then 6 else 0)).take 6
    (∀ (i q : Nat) (b : Fin 4), l[i]? = some { quarter := some q, band := b } → q ≤ x →
      (∀ (j r : Nat) (c : Fin 4), l[j]? = some { quarter := some r, band := c } → r ≤ x → r < q ∨ (r = q ∧ j ≤ i)) →
      t.bandAt day x = b) ∧
    ((∀ (j r : Nat) (c : Fin 4), l[j]? = some { quarter := some r, band := c } → x < r) →
      (∀ (i q : Nat) (b : Fin 4), l[i]? = some { quarter := some q, band := b } →
        (∀ (j r : Nat) (c : Fin 4), l[j]? = some { quarter := some r, band := c } → r < q ∨ (r = q ∧ j ≤ i)) →
        t.bandAt day x = b) ∧
      ((∀ p ∈ l, p.quarter = none) → t.bandAt day x = 0))

/-- The friendly flag (R59): set on a special day and in a window of the day's profile, the end exclusive, wrapping past midnight; clear while the clock is INVALID. -/
def Obligations.FriendlyFlagFollowsTheWindows : Prop :=
  ∀ c : Ctu,
    (c.clock.valid = false → c.friendlyNow = false) ∧
    (c.clock.valid = true →
      (c.friendlyNow = true ↔
        (some (c.clock.count / 86400) ∈ c.active.specials.toList ∨
        ∃ w ∈ (c.active.windows.toList.drop
            (if weekdayOf (c.clock.count / 86400) = 5 ∨ weekdayOf (c.clock.count / 86400) = 6 ∨
              some (c.clock.count / 86400) ∈ c.active.specials.toList then 2 else 0)).take 2,
          let x := c.clock.count % 86400 / 900
          (w.start < w.stop ∧ w.start ≤ x ∧ x < w.stop) ∨ (w.stop < w.start ∧ (w.start ≤ x ∨ x < w.stop)))))

/-! ### Codes -/

/-- The sequence check (R82), row by row of its table; neither refusal steps the rejection run. -/
def Obligations.SequenceWindowTable : Prop :=
  ∀ (seq : Nat) (c : Cru),
    (c.h = none → sequenceCheck seq c = none) ∧
    (∀ h, c.h = some h → h < seq → sequenceCheck seq c = none) ∧
    (∀ h, c.h = some h → seq ≤ h → h ≤ seq + 31 → (∀ r ∈ c.redeemed, r.seq ≠ seq) → sequenceCheck seq c = none) ∧
    (∀ h, c.h = some h → seq ≤ h → h ≤ seq + 31 → (∃ r ∈ c.redeemed, r.seq = seq) → sequenceCheck seq c = some .used) ∧
    (∀ h, c.h = some h → seq + 31 < h → sequenceCheck seq c = some .stale) ∧
    (∀ h, c.h = some h → h ≤ 30 → sequenceCheck seq c ≠ some .stale) ∧
    CodeOutcome.used.steps = false ∧ CodeOutcome.stale.steps = false

/-- Recording a committed code (R83, R92): H, the records that leave and the one that is added, in strictly ascending sequence within the window, at most 32; the rejection run is cleared. -/
def Obligations.RedeemedListKeepsItsWindow : Prop :=
  ∀ (e : JournalEntry) (c : Cru), c.windowed → sequenceCheck e.seq c = none →
    let top := match c.h with
      | none => e.seq
      | some h => max h e.seq
    (c.record e).h = some top ∧ (c.record e).windowed ∧ (c.record e).redeemed.length ≤ 32 ∧
    (∀ r, r ∈ (c.record e).redeemed ↔
      r = { seq := e.seq, cls := e.cls, amount := if e.cls = 0 then e.payload.toNat else 0, time := e.time
            number := e.number } ∨ (r ∈ c.redeemed ∧ top < r.seq + 32)) ∧
    (c.record e).run = none ∧ (c.record e).key = c.key ∧ (c.record e).staged = c.staged ∧
    (c.record e).lockEnd = c.lockEnd ∧ (c.record e).inFlight = c.inFlight

/-- Which payloads are in range, class by class, an unused part being zero (R84, section 10.5); a VALUE refusal does not step the rejection run. -/
def Obligations.PayloadRangesByClass : Prop :=
  ∀ p : BitVec 32,
    let b3 := p.toNat / 2 ^ 24
    let b2 := p.toNat / 2 ^ 16 % 256
    let b1 := p.toNat / 2 ^ 8 % 256
    let b0 := p.toNat % 256
    let low24 := p.toNat % 2 ^ 24
    ((parseAction 0 p).isSome ↔ p.toNat ≠ 0) ∧
    ((parseAction 1 p).isSome ↔ b3 ≤ 3 ∧ low24 ≤ 9999999) ∧
    ((parseAction 2 p).isSome ↔ b3 ≤ 1 ∧ b2 ≤ 5 ∧ (b1 ≤ 95 ∨ b1 = 127) ∧ b0 ≤ 3) ∧
    ((parseAction 3 p).isSome ↔ b3 ≤ 11 ∧ b2 = 0) ∧
    ((parseAction 4 p).isSome ↔ b3 ≤ 1 ∧ b2 ≤ 1 ∧ b1 ≤ 95 ∧ b0 ≤ 95) ∧
    ((parseAction 5 p).isSome ↔ p.toNat ≤ 65535) ∧
    ((parseAction 6 p).isSome ↔ p.toNat ≤ 9999999) ∧
    ((parseAction 7 p).isSome ↔
      (b3 = 0 ∧ low24 ≤ 999999) ∨ (b3 = 1 ∧ low24 ≤ 10000) ∨ (b3 = 2 ∧ low24 ≤ 100000) ∨
      (b3 = 3 ∧ (low24 = 0 ∨ (100 ≤ low24 ∧ low24 ≤ 65000)))) ∧
    ((parseAction 8 p).isSome ↔ b3 ≤ 50 ∧ low24 ≤ 999999) ∧
    ((parseAction 9 p).isSome ↔ 1 ≤ p.toNat ∧ p.toNat ≤ 255) ∧
    ((parseAction 10 p).isSome ↔ b3 = 0 ∧ b2 = 0 ∧ b1 ≤ 7 ∧ b0 ≤ 2) ∧
    (parseAction 11 p).isSome ∧ (parseAction 12 p).isSome ∧ (parseAction 13 p).isSome ∧
    ((parseAction 14 p).isSome ↔ p.toNat ≤ 1) ∧ CodeOutcome.value.steps = false

/-! ### Account -/

/-- Two charges leave the account the same whichever is taken first: C at the floor or at C − q1 − q2, the rest in B, each total risen by the same sum (R34, R31, R32). -/
def Obligations.TwoChargesCommute : Prop :=
  ∀ (a : Ace) (q1 q2 : Nat), 0 < q1 → 0 < q2 → a.floor ≤ a.c → a.b ≤ Config.debtMax →
    a.balanceCharges ≤ Config.totalMax → a.debtCharges ≤ Config.totalMax →
    let t := (a.charged q1).charged q2
    let room := (a.c - a.floor).toNat
    (a.charged q2).charged q1 = t ∧
    t.c = max a.floor (a.c - q1 - q2) ∧
    t.b = min Config.debtMax (a.b + (q1 + q2 - room)) ∧
    t.balanceCharges = min Config.totalMax (a.balanceCharges + min (q1 + q2) room) ∧
    t.debtCharges = min Config.totalMax (a.debtCharges + (q1 + q2 - room)) ∧
    t.d = a.d ∧ t.q = a.q ∧ t.em = a.em ∧ t.creditApplied = a.creditApplied ∧ t.debtRecovered = a.debtRecovered

/-- Billed pulses at one rate R charge exactly floor((D + n × R) / P) steps and leave the remainder in D; the band's register counts them and the others stand (R26, R27). -/
def Obligations.PulsesChargeExactlyTheRate : Prop :=
  ∀ (n : Nat) (s : State) (k : Commission), s.comm = some k → 0 < k.p → s.ace.d < k.p → s.ace.floor ≤ s.ace.c →
    s.ace.reg[s.ctu.band] < 10000000000 →
    let r := s.ctu.active.rates[s.ctu.band]
    let steps := (s.ace.d + n * r) / k.p
    s.ace.balanceCharges + steps ≤ Config.totalMax → s.ace.debtCharges + steps ≤ Config.totalMax →
    let t := billPulses n s
    t.ace.d = (s.ace.d + n * r) % k.p ∧
    t.ace.balanceCharges + t.ace.debtCharges = s.ace.balanceCharges + s.ace.debtCharges + steps ∧
    t.ace.reg[s.ctu.band] = (s.ace.reg[s.ctu.band] + n) % 10000000000 ∧
    (∀ b : Fin 4, b ≠ s.ctu.band → t.ace.reg[b] = s.ace.reg[b]) ∧
    t.ctu = s.ctu ∧ t.cru = s.cru ∧ t.pins = s.pins ∧ t.now = s.now ∧ t.comm = s.comm ∧ t.psv = s.psv

/-! ### Power -/

/-- POWER_ON from OFF is a cold start at step 1 (R170, R178, R22, R192, R205): the alert set is empty, LKP and MIU begin afresh with nothing waiting and nothing held, the store and battery RAM's validity stand. The model's own conventions in it: log entries 1, 4, 13 and 30. -/
def Obligations.PowerOnStartsCold : Prop :=
  ∀ (p : Pins) (s : State), s.psv.power = .off → storeAtRest s = true →
    ∃ t, exec (.powerOn p) s = .next t ∧ t.psv.power = .startup 1 .cold ∧ t.psv.stable = 0 ∧
      t.psv.reset = { armed := false, count := 0, since := 0 } ∧ t.psv.bramValid = s.psv.bramValid ∧
      t.pins = p ∧ t.now = 0 ∧ t.lkp.alerts = Vector.replicate 9 .absent ∧ t.attentionLow = false ∧
      t.lkp.rx = { state := .hunt, lastByte := 0 } ∧ t.lkp.outbox = [] ∧ t.lkp.inService = none ∧
      t.miu.line.held = 0 ∧ t.miu.ret.held = 0 ∧ t.miu.line.det.armed = !p.linePulse ∧
      t.miu.ret.det.armed = !p.returnPulse ∧ t.miu.line.lastAt = none ∧ t.miu.ret.lastAt = none ∧
      t.miu.window = none ∧ t.miu.flashPending = 0 ∧ t.stc = s.stc ∧ t.comm = s.comm ∧
      t.ctu.clock = s.ctu.clock ∧ t.ctu.trim = s.ctu.trim ∧ t.tmn.records = s.tmn.records ∧
      t.tmn.history = s.tmn.history ∧ t.tmn.cover = s.tmn.cover

/-- MAINS_OK's fall and a RESET request in RUN enter one and the same HOLDUP (R172, R161, R94, R184): POWER_DOWN stands newest, waiting requests are gone, a write in flight goes on with the SAVE behind it, and on a free path the SAVE starts with everything up to POWER_DOWN in its content. On an UNCOMMISSIONED part HOLDUP ends at once, with no POWER_DOWN and no SAVE (R186). The model's own conventions in it: log entries 4 and 7. -/
def Obligations.MainsFallOrResetEntersHoldup : Prop :=
  ∀ s : State, s.psv.power = .run → storeAtRest s = true →
    (∀ k : Commission, s.comm = some k → (s.stc.write.isSome ∨ s.stc.checkpointSlot.isSome) →
      (∃ t, exec .mainsOkFall s = .next t ∧
        heldUp k ((s.setPins { s.pins with mainsOk := false }).setPsv { s.psv with stable := 0 }) t) ∧
      (s.psv.reset.armed = true →
        let e := elapse (32 - s.psv.reset.since) s
        ∃ t, exec .resetRequest s = .next t ∧
          heldUp k ((e.setPins { e.pins with reset := true }).setPsv
            { e.psv with reset := { armed := false, count := 0, since := 0 } }) t)) ∧
    (s.comm = none →
      let ended := fun t : State => t.stc.write = none ∧ t.stc.saveWaiting = none ∧
        t.stc.journal = s.stc.journal ∧ t.stc.checkpoints = s.stc.checkpoints
      (∃ t, exec .mainsOkFall s = .next t ∧ ended t ∧ t.psv.power = (if s.pins.vbat then .battery else .off) ∧
        (s.pins.vbat = true → s.psv.bramValid = true →
          t.tmn.history = s.tmn.history ∧ t.tmn.records = s.tmn.records)) ∧
      (s.psv.reset.armed = true → s.pins.mainsOk = true →
        ∃ t, exec .resetRequest s = .next t ∧ ended t ∧ t.psv.power = .startup 1 .warm ∧
          t.tmn.history = s.tmn.history ∧ t.tmn.records = s.tmn.records))

/-- A RESET taken in STARTUP begins the steps again (R185, R162, R19, R205): the start kind, the holding counts and a write in flight stay, waiting requests go, a drive run is left with at most its coil pulse to finish, and no event is appended. The model's own conventions in it: log entries 4, 13 and 22. -/
def Obligations.ResetInStartupBeginsAgain : Prop :=
  ∀ (n : Nat) (kind : StartKind) (s : State), s.psv.power = .startup n kind → s.psv.reset.armed = true →
    ∃ t, exec .resetRequest s = .next t ∧ t.psv.power = .startup 1 kind ∧ t.psv.stable = 0 ∧
      t.psv.reset.armed = false ∧ t.miu.line.held = s.miu.line.held ∧ t.miu.ret.held = s.miu.ret.held ∧
      t.stc.write = s.stc.write ∧ t.stc.journal = s.stc.journal ∧ t.stc.checkpoints = s.stc.checkpoints ∧
      t.stc.saveWaiting = none ∧ t.stc.journalWaiting = none ∧ t.stc.checkpointWaiting = none ∧
      t.lkp.alerts = Vector.replicate 9 .absent ∧ t.lkp.outbox = s.lkp.outbox ∧
      t.tmn.history = s.tmn.history ∧ t.tmn.records = s.tmn.records ∧ t.comm = s.comm ∧
      t.psv.bramValid = s.psv.bramValid ∧
      (∀ r, t.ssc.run = some r → r.step = .pulse ∧ r.abandoned = true) ∧
      t.openDrive = s.openDrive ∧ t.closeDrive = s.closeDrive

/-- The power gives out in HOLDUP before the save has ended, or MAINS_OK falls in STARTUP (R176, R183, R162): BATTERY where VBAT holds the battery domain, OFF where it does not, with the write in flight abandoned to its slot. In BATTERY valid battery RAM keeps the clock, the trim record and TMN's records, history and debounce; what is unpowered is dark. The model's own conventions in it: log entries 12, 14 and 15. -/
def Obligations.PowerGivesOut : Prop :=
  ∀ (c : Instr) (written : Bool) (s : State),
    ((c = .holdupPowerLoss written ∧ s.psv.power = .holdup) ∨
      (c = .mainsFailInStartup written ∧ ∃ n kind, s.psv.power = .startup n kind)) →
    ∃ t, exec c s = .next t ∧
      t.psv.power = (if s.pins.vbat then .battery else .off) ∧
      t.stc.write = none ∧ t.stc.saveWaiting = none ∧ t.stc.journalWaiting = none ∧
      t.stc.checkpointWaiting = none ∧
      (written = false → t.stc.journal = s.stc.journal ∧ t.stc.checkpoints = s.stc.checkpoints) ∧
      (∀ w, written = true → s.stc.write = some w →
        t.stc.journal = (s.stc.written w.job w.slot).journal ∧
        t.stc.checkpoints = (s.stc.written w.job w.slot).checkpoints) ∧
      (s.pins.vbat = true → t.psv.bramValid = s.psv.bramValid ∧
        (s.psv.bramValid = true → t.tmn.records = s.tmn.records ∧ t.tmn.history = s.tmn.history ∧
          t.tmn.cover = s.tmn.cover ∧ t.tmn.terminal = s.tmn.terminal ∧ t.tmn.magnet = s.tmn.magnet ∧
          t.tmn.mark = s.tmn.mark ∧ t.ctu.clock = s.ctu.clock ∧ t.ctu.trim = s.ctu.trim ∧
          t.psv.applied = s.psv.applied)) ∧
      (s.pins.vbat = false → t.psv.bramValid = false ∧ t.tmn.history = [] ∧ t.ctu.clock.valid = false ∧
        t.ctu.trim = none) ∧
      t.openDrive = false ∧ t.closeDrive = false ∧ t.pulseLed = false ∧ t.stateLed = false ∧
      t.tamperLed = false ∧ t.warnOut = false ∧ t.attentionLow = false ∧ t.lkp.outbox = [] ∧
      t.miu.line.held = 0 ∧ t.miu.ret.held = 0

/-- VBAT exhausted in BATTERY: OFF, with everything in battery RAM lost and the store as it stands (R171, R177). In any other state it is noted and nothing else changes (R171, R173), and so is a VBAT that can hold the battery domain again, which the next loss of mains then finds (R174). The model's own conventions in it: log entries 12 and 15. -/
def Obligations.VbatExhaustedLosesBatteryRam : Prop :=
  ∀ s : State,
    (s.psv.power = .battery →
      ∃ t, exec (.vbatExhausted true) s = .next t ∧ t.psv.power = .off ∧ t.psv.bramValid = false ∧
        t.tmn = Tmn.factory ∧ t.ctu.clock = { count := 0, valid := false, sub := 0 } ∧ t.ctu.trim = none ∧
        t.stc.journal = s.stc.journal ∧ t.stc.checkpoints = s.stc.checkpoints ∧ t.stc.write = none ∧
        t.pins = { s.pins with vbat := false }) ∧
    (s.psv.power ≠ .battery → storeAtRest s = true →
      exec (.vbatExhausted true) s = .next (s.setPins { s.pins with vbat := false })) ∧
    (storeAtRest s = true →
      exec (.vbatExhausted false) s = .next (s.setPins { s.pins with vbat := true }))

/-- The save ends (R174, R158, R154, R161). A good one stands in its slot; a second bad one marks its slot bad; either way PSV leaves HOLDUP for a warm STARTUP, BATTERY or OFF by MAINS_OK and VBAT, with battery RAM's records as they stood. A first bad one marks its slot and is written once more elsewhere. The model's own conventions in it: log entries 12 and 31. -/
def Obligations.SaveEndLeavesHoldup : Prop :=
  ∀ (s : State) (i : Nat) (second good : Bool) (c : Checkpoint), s.psv.power = .holdup →
    s.stc.write = some { slot := i, second := second, job := .save c } →
    ((good = true ∨ second = true) →
      ∃ t, exec (.saveComplete good) s = .next t ∧
        t.psv.power = (if s.pins.mainsOk then .startup 1 .warm else if s.pins.vbat then .battery else .off) ∧
        t.stc.checkpoints = s.stc.checkpoints.setIfInBounds i (if good then .holding c else .bad) ∧
        t.stc.journal = s.stc.journal ∧ t.stc.write = none ∧ t.stc.saveWaiting = none ∧
        t.stc.journalWaiting = none ∧ t.stc.checkpointWaiting = none ∧ t.ssc.run = none ∧
        t.miu.window = none ∧ t.ctu.elapsed = none ∧ t.cru.lockEnd = none ∧
        ((s.pins.mainsOk = true ∨ (s.pins.vbat = true ∧ s.psv.bramValid = true)) →
          t.tmn.records = s.tmn.records ∧ t.tmn.history = s.tmn.history ∧ t.tmn.cover = s.tmn.cover ∧
          t.ctu.clock = s.ctu.clock ∧ t.ctu.trim = s.ctu.trim ∧ t.psv.applied = s.psv.applied)) ∧
    (good = false → second = false →
      let m := ({ s.stc with checkpoints := s.stc.checkpoints.setIfInBounds i .bad } : Stc).judged
      ∀ j, m.checkpointSlot = some j →
        exec (.saveComplete false) s = .next (s.setStc
          { m with
            checkpoints := m.checkpoints.setIfInBounds j .torn
            write := some { slot := j, second := true, job := .save c } }))

/-- A start of a part whose store holds no valid checkpoint, UNCOMMISSIONED with factory values, nothing in the history (R163, R168, R179 to R182, R186, R205). With LOAD_SENSE absent it ends in RUN, with the alerts RESTART, STORE where store health is not GOOD, and no other: the set is empty from BATTERY, and in STARTUP no further mark of it moves. With LOAD_SENSE present an opening run goes on in STARTUP, OPENING, and no alert is raised. The model's own conventions in it: log entries 10 and 12. -/
def Obligations.BlankStoreStartsUncommissioned : Prop :=
  ∀ (s : State) (kind : StartKind),
    ((s.psv.power = .battery ∧ kind = if s.psv.bramValid then .warm else .cold) ∨ s.psv.power = .startup 1 kind) →
    s.pins.mainsOk = true → s.stc.write = none → s.stc.chosen = none →
    let before := if s.psv.power = .battery then Vector.replicate 9 .absent else s.lkp.alerts
    ∃ t, exec .mainsStable s = .next t ∧ t.comm = none ∧ t.ace = Ace.factory ∧
      t.cru = Cru.factory ∧ t.ctu.active = Tariff.factory ∧ t.ctu.pending = .none ∧
      t.ctu.clock = { count := 0, valid := false, sub := 0 } ∧ t.ctu.trim = none ∧
      t.ssc.causes = { credit := true, tamper := false, overload := false, remote := true } ∧
      t.ssc.waiver = false ∧ t.tmn.history = [] ∧ t.tmn.mark = false ∧
      (s.psv.power = .battery ∨ s.miu.window = none → t.miu.window = none) ∧ t.stc.newest = none ∧ t.stc.nextCheckpoint = 1 ∧
      t.stc.unfolded = [] ∧ t.stc.journal = s.stc.journal ∧ t.stc.checkpoints = s.stc.checkpoints ∧
      t.stc.health = healthOf (goodSlots s.stc.checkpoints.toList) (goodSlots s.stc.journal.toList) ∧
      (s.pins.loadSense = false →
        t.psv.power = .run ∧ t.ctu.elapsed = some 0 ∧ t.ssc.state = .opened ∧ t.ssc.run = none ∧
        t.miu.line.held = 0 ∧ t.miu.ret.held = 0 ∧
        (∀ a : Alert, t.lkp.alerts[a.idx] =
          if a = .restart ∨ (a = .store ∧ t.stc.health ≠ .good) then .unseen else before[a.idx])) ∧
      (s.pins.loadSense = true →
        t.psv.power = .startup 4 kind ∧ t.ctu.elapsed = none ∧ t.ssc.state = .opening ∧
        t.ssc.run = some
          { dir := .toOpen, attempt := 1, step := if s.pins.reservoirReady then .pulse else .reservoir
            ticks := 0, lastFail := none, abandoned := false } ∧
        t.lkp.alerts = before)

/-- A cold start with no entry to replay restores the chosen checkpoint: the account, the key, the redeemed list, the rejection run and the lockout, the tariffs, W_lim, SSC's lasting state with its causes judged, and TMN's records and history as the reconciliation leaves them; the debounce begins (R47, R48, R102, R131, R134, R138, R147, R149, R163, R164, R70, R180). It takes no catch-up. Step 4 compares the contactor, and with no drive run going the part enters RUN, where line pulses held are billed at band 0 and flashed and the first window opens with both holding counts (R20, R132, R181, R182). The model's own conventions in it: log entries 10, 12, 17, 18, 33 and 35. -/
def Obligations.ColdStartRestoresTheCheckpoint : Prop :=
  ∀ (s : State) (i : Nat) (c : Checkpoint),
    (s.psv.power = .startup 1 .cold ∨ (s.psv.power = .battery ∧ s.psv.bramValid = false)) →
    s.pins.mainsOk = true → s.stc.write = none → s.stc.chosen = some (i, c) →
    s.stc.entryNumbered (c.folded + 1) = none →
    let battery := decide (s.psv.power = .battery)
    let l := if battery then 0 else s.miu.line.held
    let r := if battery then 0 else s.miu.ret.held
    let before := if battery then Vector.replicate 9 .absent else s.lkp.alerts
    let u := elapse (2048 - s.psv.stable) s
    let rate := c.active.rates[0]
    ∃ t, exec .mainsStable s = .next t ∧ t.comm = some c.comm ∧
      (l = 0 ∨ t.psv.power ≠ .run → t.ace = { c.ace with em := match c.ace.em with
        | .inUse n => .inUse n
        | _ => if 0 < c.ace.e ∧ c.ace.c ≤ c.ace.lc then .offered else .unavailable }) ∧
      t.cru.key = c.key ∧ t.cru.staged = c.staged ∧ t.cru.h = c.h ∧ t.cru.redeemed = c.redeemed ∧
      t.cru.run = (if c.runCount = 0 then none else some { count := c.runCount, start := (t.now : Int) - c.runAge }) ∧
      t.cru.lockEnd = c.lockLeft.map (t.now + ·) ∧
      t.cru.inFlight = none ∧ t.ctu.active = c.active ∧ t.ctu.pending = c.pendingTariff ∧
      t.ctu.clock = { count := 0, valid := false, sub := 0 } ∧ t.ctu.trim = none ∧ t.ctu.band = 0 ∧
      t.ctu.friendly = false ∧ t.miu.wLim = c.wLim ∧
      t.stc.newest = some { slot := i, number := c.number, folded := c.folded } ∧ t.stc.unfolded = [] ∧
      t.stc.journal = s.stc.journal ∧ t.psv.bramValid = true ∧
      (∀ sw, t.tmn.debounce sw =
        { last := pinLevel s.pins sw, shot := some 0, level := c.records[(switchKind sw).idx].active }) ∧
      startEnds c .cold
        { credit := decide (c.ace.c ≤ c.ace.floor), tamper := wantsTamper t.tmn.records
          overload := c.causes.overload, remote := c.causes.remote }
        c.trips c.records c.history before s.pins l r t ∧
      (s.psv.power = .battery ∨ s.miu.window = none → t.psv.power ≠ .run → t.miu.window = none) ∧
      (t.psv.power = .run →
        (s.miu.flashPending ≤ 255 →
          t.miu.flashPending = if battery then 0 else min 255 (u.miu.flashPending + l)) ∧
        (c.ace.d < c.comm.p → t.ace.d = (c.ace.d + l * rate) % c.comm.p) ∧
        (c.ace.reg[0] < 10000000000 → t.ace.reg[0] = (c.ace.reg[0] + l) % 10000000000) ∧
        (c.ace.d < c.comm.p → c.ace.floor ≤ c.ace.c →
          c.ace.balanceCharges + (c.ace.d + l * rate) / c.comm.p ≤ Config.totalMax →
          c.ace.debtCharges + (c.ace.d + l * rate) / c.comm.p ≤ Config.totalMax →
          t.ace.balanceCharges + t.ace.debtCharges =
            c.ace.balanceCharges + c.ace.debtCharges + (c.ace.d + l * rate) / c.comm.p))

/-- A warm start with a VALID clock charges one standing tick for each quarter the outage passed, through the residue, and brings the last charged quarter up to the clock's; a tick that enters a new day ends the trip day (R30, R28, R29, R60, R124). TMN's records and history are battery RAM's, reconciled with the source views, and a battery mark asks for a checkpoint, which is written in STARTUP (R148, R149, R165). Step 4 compares the contactor, and with no drive run going the part enters RUN (R131, R132, R181, R182). The model's own conventions in it: log entries 10, 12, 18, 19, 26, 33 and 35. -/
def Obligations.WarmStartCatchesUp : Prop :=
  ∀ (s : State) (i : Nat) (c : Checkpoint),
    ((s.psv.power = .startup 1 .warm ∧ s.miu.line.held = 0) ∨ (s.psv.power = .battery ∧ s.psv.bramValid = true)) →
    s.pins.mainsOk = true → s.stc.write = none → s.stc.chosen = some (i, c) →
    s.stc.entryNumbered (c.folded + 1) = none → s.ctu.clock.valid = true →
    (c.pendingTariff = .none ∨ ∃ tf, c.pendingTariff = .editing tf) → c.ace.floor ≤ c.ace.c →
    c.ace.q < 96 →
    let battery := decide (s.psv.power = .battery)
    let now := absQuarterOf s.ctu.clock.count
    let total := c.ace.q + (now - c.ace.lastQ) * c.active.standing
    let newDay := decide (c.ace.lastQ / 96 < now / 96)
    c.ace.balanceCharges + total / 96 ≤ Config.totalMax → c.ace.debtCharges + total / 96 ≤ Config.totalMax →
    ∃ t, exec .mainsStable s = .next t ∧ t.ace.lastQ = max c.ace.lastQ now ∧ t.ace.q = total % 96 ∧
      t.ace.balanceCharges + t.ace.debtCharges = c.ace.balanceCharges + c.ace.debtCharges + total / 96 ∧
      t.ace.creditApplied = c.ace.creditApplied ∧ t.ace.d = c.ace.d ∧ t.ace.reg = c.ace.reg ∧
      t.ctu.clock.valid = true ∧ t.ctu.clock.count = s.ctu.clock.count ∧ t.ctu.trim = s.ctu.trim ∧
      t.cru.h = c.h ∧ t.cru.key = c.key ∧
      startEnds c .warm
        { credit := decide (t.ace.c ≤ t.ace.floor), tamper := wantsTamper t.tmn.records
          overload := c.causes.overload && !newDay, remote := c.causes.remote }
        (if newDay then 0 else c.trips) s.tmn.records s.tmn.history
        (if battery then Vector.replicate 9 .absent else s.lkp.alerts) s.pins 0
        (if battery then 0 else s.miu.ret.held) t ∧
      (s.psv.power = .battery ∨ s.miu.window = none → t.psv.power ≠ .run → t.miu.window = none) ∧
      (s.tmn.mark = true → ∀ j,
        ({ s.stc with newest := some { slot := i, number := c.number, folded := c.folded } } : Stc).checkpointSlot =
          some j →
        ∃ p, t.stc.write = some { slot := j, second := false, job := .checkpoint p } ∧ p.comm = c.comm ∧
          p.folded = t.stc.newestNumber ∧ p.ace = t.ace ∧ p.records = t.tmn.records ∧
          (t.psv.power = .run →
            t.tmn.history = ({ time := t.stamp, kind := .powerUp .warm } :: p.history).take 32) ∧
          (t.psv.power ≠ .run → t.tmn.history = p.history))

/-! ### Metering -/

/-- A line pulse in RUN or HOLDUP on a commissioned part (R1, R2, R4, R16, R17, R26, R27, R31 to R33, R35, R40, R106 to R109, R113, R123, R127): the register of the band, the residue, the charge through the floor into debt, the counts, the flash. While the balance keeps clear of the floor and of the low threshold, and no power limit is set, nothing else moves. A charge that brings C to the floor makes CREDIT join: from CLOSED to WARNING, with its timer at 0 and WARN on, or to DEFERRED under the friendly flag, from ARMED to OPEN, and elsewhere the set alone changes; C coming to Lc raises LOW_CREDIT, and entering OFFERED raises EMERGENCY. A period above the power limit moves the channel's over-limit run, and the fourth in a row, with the supply on, returns both runs to 0, counts the trip, starts the restore timer and opens the supply. The model's own conventions in it: log entries 4 and 17. -/
def Obligations.LinePulseIsBilled : Prop :=
  ∀ (rev : Bool) (s : State) (k : Commission), s.psv.power.running = true → s.comm = some k → 0 < k.p →
    s.miu.line.det.armed = true → storeAtRest s = true → s.ace.floor ≤ s.ace.c → s.ace.b ≤ Config.debtMax →
    s.ace.balanceCharges ≤ Config.totalMax → s.ace.debtCharges ≤ Config.totalMax →
    let u := elapse (4 - s.miu.line.det.since) s
    let r := s.ctu.active.rates[s.ctu.band]
    let q := (s.ace.d + r) / k.p
    let room := (s.ace.c - s.ace.floor).toNat
    ∃ t, exec (.linePulseAccepted rev) s = .next t ∧ t.now = u.now ∧ t.comm = s.comm ∧ t.psv = u.psv ∧
      t.ctu = u.ctu ∧ t.cru = s.cru ∧ t.pins = { s.pins with linePulse := true, lineDir := rev } ∧
      t.miu.line.det = { armed := false, count := 4, since := 0 } ∧ t.miu.line.lastAt = some u.now ∧
      t.miu.line.held = s.miu.line.held ∧
      (∀ a, s.miu.line.lastAt = some a → u.now - a ≤ 4194303 → t.miu.line.period = some (u.now - a)) ∧
      t.miu.window.map (fun w => (w.start, w.nL, w.nR, w.rev)) =
        s.miu.window.map (fun w => (w.start, w.nL + 1, w.nR, w.rev + rev.toNat)) ∧
      t.miu.flashPending = min 255 (u.miu.flashPending + 1) ∧ t.miu.flashSlot = u.miu.flashSlot ∧
      t.ace.reg = s.ace.reg.set s.ctu.band
        (if s.ace.reg[s.ctu.band] < 9999999999 then s.ace.reg[s.ctu.band] + 1 else 0) ∧
      t.ace.d = (s.ace.d + r) % k.p ∧ t.ace.c = max s.ace.floor (s.ace.c - q) ∧
      t.ace.b = min Config.debtMax (s.ace.b + (q - room)) ∧
      t.ace.balanceCharges = min Config.totalMax (s.ace.balanceCharges + min q room) ∧
      t.ace.debtCharges = min Config.totalMax (s.ace.debtCharges + (q - room)) ∧
      t.ace.creditApplied = s.ace.creditApplied ∧ t.ace.debtRecovered = s.ace.debtRecovered ∧
      t.ace.q = s.ace.q ∧ t.ace.lastQ = s.ace.lastQ ∧ t.ace.cmax = s.ace.cmax ∧ t.ace.e = s.ace.e ∧
      t.ace.lc = s.ace.lc ∧ t.ace.share = s.ace.share ∧
      (∀ n, s.ace.em = .inUse n → t.ace.em = .inUse n) ∧
      ((∀ n, s.ace.em ≠ .inUse n) → 0 < q →
        t.ace.em = if 0 < s.ace.e ∧ t.ace.c ≤ s.ace.lc then .offered else .unavailable) ∧
      (0 < q → t.ssc.low = decide (t.ace.c ≤ s.ace.lc) ∧
        (s.ssc.low = false → t.ace.c ≤ s.ace.lc → unseen .lowCredit t = true) ∧
        (s.ace.em = .unavailable → t.ace.em = .offered → unseen .emergency t = true)) ∧
      (0 < q → (s.miu.wLim = 0 ∨ s.miu.line.overRun < 3) →
        let present := decide (t.ace.c ≤ t.ace.floor)
        t.ssc.causes = { s.ssc.causes with credit := present } ∧
        (s.ssc.causes.credit = present → t.ssc.state = s.ssc.state ∧ t.ssc.run = u.ssc.run ∧ t.ssc.warn = u.ssc.warn) ∧
        (s.ssc.causes.credit = false → present = true → t.ssc.run = u.ssc.run ∧
          (s.ssc.state = .closed → s.ssc.causes.isEmpty = true → t.miu.view = some t.ssc.state ∧
            if s.ssc.friendly then t.ssc.state = .deferred ∧ t.ssc.warn = none ∧ t.warnOut = false
            else t.ssc.state = .warning ∧ t.ssc.warn = some 0 ∧ t.warnOut = true) ∧
          (s.ssc.state = .armed → t.ssc.state = .opened ∧ t.miu.view = some .opened ∧ unseen .supply t = true ∧
            t.tmn.history = s.tmn.history) ∧
          (s.ssc.state ≠ .closed → s.ssc.state ≠ .armed → t.ssc.state = s.ssc.state))) ∧
      (s.miu.wLim = 0 → s.ace.em = .unavailable → s.ssc.causes.credit = false → s.ssc.low = false →
        (s.ace.lc : Int) + q < s.ace.c →
        t.ssc = u.ssc ∧ t.tmn = u.tmn ∧ t.stc = s.stc ∧ t.lkp = s.lkp ∧ t.miu.ret = u.miu.ret ∧
          t.miu.line.overRun = 0) ∧
      (s.miu.line.lastAt = none → t.miu.line.overRun = 0) ∧
      (∀ a, s.miu.line.lastAt = some a → u.now - a ≤ 4194303 → 0 < s.miu.wLim →
        let demand := min 65535 (3686400000 / (k.p * (u.now - a)))
        (demand ≤ s.miu.wLim → t.miu.line.overRun = 0 ∧ t.ssc.causes.overload = s.ssc.causes.overload) ∧
        (s.miu.wLim < demand → s.miu.line.overRun < 3 →
          t.miu.line.overRun = s.miu.line.overRun + 1 ∧ t.ssc.causes.overload = s.ssc.causes.overload) ∧
        (s.miu.wLim < demand → s.miu.line.overRun = 3 →
          t.miu.line.overRun = 0 ∧ t.miu.ret.overRun = 0 ∧
          (s.ssc.causes.overload = false → s.ssc.causes.tamper = false → s.ssc.causes.remote = false →
            s.miu.view = some s.ssc.state →
            (s.ssc.state = .closed ∨ s.ssc.state = .warning ∨ s.ssc.state = .deferred) →
            t.ssc.state = .opening ∧ t.ssc.causes.overload = true ∧ t.ssc.causes.tamper = false ∧
            t.ssc.causes.remote = false ∧ t.ssc.trips = min 3 (s.ssc.trips + 1) ∧ t.ssc.restore = some 0 ∧
            t.ssc.tripDay = (if s.ssc.trips = 0 then some 0 else u.ssc.tripDay) ∧ t.ssc.warn = none ∧
            t.ssc.waiver = false ∧
            t.ssc.run = some
              { dir := .toOpen, attempt := 1, step := if s.pins.reservoirReady then .pulse else .reservoir
                ticks := 0, lastFail := none, abandoned := false })))

/-- A return pulse in RUN or HOLDUP on a commissioned part (R5, R2, R16, R17, R110, R123): counted and not billed. The fourth period in a row above the power limit, with the supply on, returns both runs to 0, counts the trip, starts the restore timer and opens the supply. The model's own conventions in it: log entry 4. -/
def Obligations.ReturnPulseIsCountedAndTrips : Prop :=
  ∀ (s : State) (k : Commission), s.psv.power.running = true → s.comm = some k → 0 < k.p →
    s.miu.ret.det.armed = true → storeAtRest s = true →
    let u := elapse (4 - s.miu.ret.det.since) s
    ∃ t, exec .returnPulseAccepted s = .next t ∧ t.now = u.now ∧ t.comm = s.comm ∧ t.psv = u.psv ∧
      t.ctu = u.ctu ∧ t.cru = s.cru ∧ t.ace = s.ace ∧ t.pins = { s.pins with returnPulse := true } ∧
      t.miu.ret.det = { armed := false, count := 4, since := 0 } ∧ t.miu.ret.lastAt = some u.now ∧
      t.miu.window.map (fun w => (w.start, w.nL, w.nR, w.rev)) =
        s.miu.window.map (fun w => (w.start, w.nL, w.nR + 1, w.rev)) ∧
      t.miu.flashPending = u.miu.flashPending ∧
      (s.miu.wLim = 0 → t.miu.ret.overRun = 0 ∧ t.miu.line = u.miu.line ∧ t.ssc = u.ssc ∧ t.tmn = u.tmn ∧
        t.stc = s.stc ∧ t.lkp = s.lkp) ∧
      (∀ a, s.miu.ret.lastAt = some a → u.now - a ≤ 4194303 → 0 < s.miu.wLim →
        let demand := min 65535 (3686400000 / (k.p * (u.now - a)))
        (demand ≤ s.miu.wLim → t.miu.ret.overRun = 0 ∧ t.ssc = u.ssc) ∧
        (s.miu.wLim < demand → s.miu.ret.overRun < 3 →
          t.miu.ret.overRun = s.miu.ret.overRun + 1 ∧ t.ssc = u.ssc) ∧
        (s.miu.wLim < demand → s.miu.ret.overRun = 3 → s.ssc.causes.overload = false →
          s.miu.view = some s.ssc.state →
          (s.ssc.state = .closed ∨ s.ssc.state = .warning ∨ s.ssc.state = .deferred) →
          t.miu.ret.overRun = 0 ∧ t.miu.line.overRun = 0 ∧ t.ssc.state = .opening ∧
          t.ssc.causes = { s.ssc.causes with overload := true } ∧ t.ssc.trips = min 3 (s.ssc.trips + 1) ∧
          t.ssc.restore = some 0 ∧ t.ssc.tripDay = (if s.ssc.trips = 0 then some 0 else u.ssc.tripDay) ∧
          t.ssc.warn = none ∧ t.ssc.waiver = false ∧
          t.ssc.run = some
            { dir := .toOpen, attempt := 1, step := if s.pins.reservoirReady then .pulse else .reservoir
              ticks := 0, lastFail := none, abandoned := false }))

/-- A pulse accepted in STARTUP is held, and one on an UNCOMMISSIONED part in RUN or HOLDUP flashes and no more; neither moves the account (R19, R23, R46). The model's own conventions in it: log entries 4 and 17. -/
def Obligations.PulsesOutsideBilling : Prop :=
  ∀ (rev : Bool) (s : State), s.miu.line.det.armed = true → s.miu.ret.det.armed = true →
    storeAtRest s = true →
    let u := elapse (4 - s.miu.line.det.since) s
    let v := elapse (4 - s.miu.ret.det.since) s
    (∀ n kind, s.psv.power = .startup n kind →
      (∃ t, exec (.linePulseAccepted rev) s = .next t ∧ t.miu.line.held = min 65535 (s.miu.line.held + 1) ∧
        t.miu.line.lastAt = some u.now ∧ t.miu.line.det.armed = false ∧ t.miu.window = s.miu.window ∧
        t.miu.flashPending = u.miu.flashPending ∧ t.miu.ret = u.miu.ret ∧ t.ace = s.ace ∧ t.ctu = u.ctu ∧
        t.cru = s.cru ∧ t.ssc = u.ssc ∧ t.tmn = u.tmn ∧ t.stc = s.stc ∧ t.lkp = s.lkp ∧ t.psv = u.psv) ∧
      (∃ t, exec .returnPulseAccepted s = .next t ∧ t.miu.ret.held = min 65535 (s.miu.ret.held + 1) ∧
        t.miu.ret.lastAt = some v.now ∧ t.miu.ret.det.armed = false ∧ t.miu.window = s.miu.window ∧
        t.miu.flashPending = v.miu.flashPending ∧ t.miu.line = v.miu.line ∧ t.ace = s.ace ∧ t.ctu = v.ctu ∧
        t.cru = s.cru ∧ t.ssc = v.ssc ∧ t.tmn = v.tmn ∧ t.stc = s.stc ∧ t.lkp = s.lkp ∧ t.psv = v.psv)) ∧
    (s.psv.power.running = true → s.comm = none →
      (∃ t, exec (.linePulseAccepted rev) s = .next t ∧
        t.miu.flashPending = min 255 (u.miu.flashPending + 1) ∧ t.miu.window = s.miu.window ∧
        t.ace = s.ace ∧ t.ssc = u.ssc ∧ t.tmn = u.tmn ∧ t.stc = s.stc ∧ t.lkp = s.lkp) ∧
      (∃ t, exec .returnPulseAccepted s = .next t ∧
        t.miu.flashPending = min 255 (v.miu.flashPending + 1) ∧ t.miu.window = s.miu.window ∧
        t.ace = s.ace ∧ t.ssc = v.ssc ∧ t.tmn = v.tmn ∧ t.stc = s.stc ∧ t.lkp = s.lkp))

/-- The expiry of a window (R7 to R11, R13): the return surplus is billed, the runs, IMBALANCE and the reverse flag move as their rules say, TMN is told of each change and its records follow, the pulse side of CONDUCTING_OPEN is judged where the window was OPEN throughout and stays as it was where it was not, and the next window opens at the expiry instant. For the pulse side MIU's supply view agrees with SSC's state, and an OPEN supply has a cause that stands, CREDIT alone included (`heldOpen`). The model's own conventions in it: log entries 10 and 17. -/
def Obligations.WindowExpiryJudges : Prop :=
  ∀ (s : State) (k : Commission) (w : Window), s.psv.power.running = true → s.comm = some k → 0 < k.p →
    s.ace.d < k.p → s.miu.window = some w → storeAtRest s = true → s.miu.imbRun ≤ 3 → s.miu.balRun ≤ 3 →
    s.miu.flashPending ≤ 255 →
    let steady := s.miu.view = some s.ssc.state ∧ (s.ssc.state = .opened → heldOpen s = true)
    let u := elapse (w.start + 61440 - s.now) s
    let surplus := w.nR - w.nL
    let r := s.ctu.active.rates[s.ctu.band]
    ∃ t, exec .windowExpiry s = .next t ∧ t.now = u.now ∧ t.comm = s.comm ∧ t.pins = s.pins ∧
      t.psv = u.psv ∧ t.ctu = u.ctu ∧ t.cru = s.cru ∧ t.miu.line = u.miu.line ∧ t.miu.ret = u.miu.ret ∧
      t.miu.wLim = s.miu.wLim ∧
      t.miu.window = some
        { start := w.start + 61440, nL := 0, nR := 0, rev := 0
          openThroughout := t.miu.view == some .opened } ∧
      t.miu.flashPending = min 255 (u.miu.flashPending + surplus) ∧
      t.ace.d = (s.ace.d + surplus * r) % k.p ∧
      (s.ace.reg[s.ctu.band] < 10000000000 →
        t.ace.reg[s.ctu.band] = (s.ace.reg[s.ctu.band] + surplus) % 10000000000) ∧
      t.ace.creditApplied = s.ace.creditApplied ∧ t.ace.debtRecovered = s.ace.debtRecovered ∧
      t.ace.q = s.ace.q ∧ t.ace.lastQ = s.ace.lastQ ∧
      (max 4 (max w.nL w.nR / 8) < max w.nL w.nR - min w.nL w.nR →
        t.miu.imbRun = min 3 (s.miu.imbRun + 1) ∧ t.miu.balRun = 0 ∧
        t.miu.imbalance =
          if s.miu.imbalance = none ∧ s.miu.imbRun = 2 then some (if w.nR < w.nL then .line else .ret)
          else s.miu.imbalance) ∧
      (max w.nL w.nR - min w.nL w.nR ≤ max 4 (max w.nL w.nR / 8) →
        t.miu.balRun = min 3 (s.miu.balRun + 1) ∧ t.miu.imbRun = 0 ∧
        t.miu.imbalance = if s.miu.balRun = 2 then none else s.miu.imbalance) ∧
      t.miu.reverse = (if 3 ≤ w.rev then true else if w.rev = 0 then false else s.miu.reverse) ∧
      (w.openThroughout = true → s.ssc.state = .opened → steady → t.miu.conducting = decide (2 < w.nL + w.nR)) ∧
      (w.openThroughout = false → steady → t.miu.conducting = s.miu.conducting) ∧
      (let told := fun {α : Type} [DecidableEq α] (x y v : α) => if y = x then v else y
       t.tmn.views.imbalance = told s.miu.imbalance t.miu.imbalance s.tmn.views.imbalance ∧
       t.tmn.views.reverse = told s.miu.reverse t.miu.reverse s.tmn.views.reverse ∧
       (steady → t.tmn.views.pulseSide = told s.miu.conducting t.miu.conducting s.tmn.views.pulseSide)) ∧
      (if t.tmn.views.imbalance = s.tmn.views.imbalance then t.tmn.records[3] = s.tmn.records[3]
        else t.tmn.records[3].active = t.tmn.views.imbalance.isSome ∧
          (t.tmn.views.imbalance.isSome = true → s.tmn.records[3].active = false →
            t.tmn.records[3].side = t.tmn.views.imbalance ∧ t.tmn.records[3].last = some u.stamp)) ∧
      (if t.tmn.views.reverse = s.tmn.views.reverse then t.tmn.records[4] = s.tmn.records[4]
        else t.tmn.records[4].active = t.tmn.views.reverse) ∧
      (steady → conductingSettled s = true →
        if t.tmn.views.pulseSide = s.tmn.views.pulseSide then
          t.tmn.views.loadSide = s.tmn.views.loadSide → t.tmn.records[5] = s.tmn.records[5]
        else t.tmn.records[5].active = (t.tmn.views.pulseSide || t.tmn.views.loadSide))

/-- The small timers and cycles, each with all it does (R1, R2, R6, R127, R128): a channel falls quiet, a flash slot ends, PULSE_LED is lit for its first 31 ticks, a channel is re-armed, the buzzer and STATE_LED go on to their next parts. The model's own conventions in it: log entries 4, 10 and 17. -/
def Obligations.SmallTimersDoTheirOnePart : Prop :=
  ∀ s : State, storeAtRest s = true →
    (∀ a, s.miu.line.lastAt = some a →
      let u := elapse (a + 4194303 - s.now) s
      exec (.noRecentPulse .line) s = .next (u.setMiu
        { u.miu with line := { u.miu.line with lastAt := none, period := none, overRun := 0 } })) ∧
    (∀ a, s.miu.ret.lastAt = some a →
      let u := elapse (a + 4194303 - s.now) s
      exec (.noRecentPulse .ret) s = .next (u.setMiu
        { u.miu with ret := { u.miu.ret with lastAt := none, period := none, overRun := 0 } })) ∧
    (∀ k, s.miu.flashSlot = some k →
      let u := elapse (103 - k) s
      exec .flashSlotEnd s = .next (u.setMiu (if 0 < s.miu.flashPending then
        { u.miu with flashPending := s.miu.flashPending - 1, flashSlot := some 0 }
        else { u.miu with flashSlot := none }))) ∧
    (s.psv.power.mainPowered = true → (s.pulseLed = true ↔
      (∃ k, s.miu.flashSlot = some k ∧ k < 31) ∨ (s.miu.flashSlot = none ∧ 0 < s.miu.flashPending))) ∧
    (s.psv.power.mainPowered = true → s.miu.line.det.armed = false →
      let u := elapse (1 - s.miu.line.det.since) s
      exec (.channelRearmed .line) s = .next ((u.setPins { s.pins with linePulse := false }).setMiu
        { u.miu with line := { u.miu.line with det := { armed := true, count := 0, since := 0 } } })) ∧
    (s.psv.power.mainPowered = true → s.miu.ret.det.armed = false →
      let u := elapse (1 - s.miu.ret.det.since) s
      exec (.channelRearmed .ret) s = .next ((u.setPins { s.pins with returnPulse := false }).setMiu
        { u.miu with ret := { u.miu.ret with det := { armed := true, count := 0, since := 0 } } })) ∧
    (∀ k, s.ssc.warn = some k →
      let u := elapse (512 - s.ssc.warnTicks) s
      exec .warnCycle s = .next (u.setSsc { u.ssc with warnOn := !s.ssc.warnOn, warnTicks := 0 })) ∧
    (∀ p seg len count, (p, seg, len, count) ∈
        [(LedPattern.square, 0, 512, 2), (.square, 1, 512, 2), (.singleFlash, 0, 51, 2),
         (.singleFlash, 1, 4045, 2), (.doubleFlash, 0, 51, 4), (.doubleFlash, 1, 205, 4),
         (.doubleFlash, 2, 51, 4), (.doubleFlash, 3, 1741, 4)] →
      s.psv.power.mainPowered = true → s.ssc.ledPattern = p → s.ssc.ledSegment = seg →
      let u := elapse (len - s.ssc.ledTicks) s
      exec .stateLedCycle s = .next (u.setSsc { u.ssc with ledSegment := (seg + 1) % count, ledTicks := 0 }) ∧
      (s.psv.power.startupUpTo 1 = false → (s.stateLed = true ↔ seg % 2 = 0)))

/-! ### Clock and ticks -/

/-- A clock second (R50, R51, R57 to R60, R108, R109): the count rises; entering a quarter judges the band and the friendly flag and issues the tick after the last charged quarter; a flag become set turns WARNING into DEFERRED, with timer and WARN stopped, and one become clear turns DEFERRED into WARNING, with the timer from 0; past the greatest count the clock is INVALID, the band is 0, the friendly flag clear, and the elapsed-tick timer and the CLOCK alert start. The model's own conventions in it: log entries 10 and 26. -/
def Obligations.ClockSecondCounts : Prop :=
  ∀ s : State, s.ctu.clock.valid = true → storeAtRest s = true → s.ssc.friendly = s.ctu.friendly →
    let u := elapse (1024 - s.ctu.clock.sub) s
    let n := s.ctu.clock.count + 1
    let clock := { count := n, valid := true, sub := s.ctu.clock.sub - 1024 : Clock }
    (n ≤ 4294967295 → n % 900 ≠ 0 → exec .clockSecond s = .next (u.setCtu { u.ctu with clock := clock })) ∧
    (n ≤ 4294967295 → n % 900 = 0 → s.psv.power.running = true →
      ∃ t, exec .clockSecond s = .next t ∧ t.now = u.now ∧ t.ctu.clock = clock ∧
        t.ctu.band = s.ctu.active.bandAt (n / 86400) (n % 86400 / 900) ∧
        t.ctu.friendly = s.ctu.active.friendlyAt (n / 86400) (n % 86400 / 900) ∧
        t.ssc.friendly = t.ctu.friendly ∧ t.ssc.causes = s.ssc.causes ∧ t.ssc.run = u.ssc.run ∧
        (s.ssc.state = .warning → s.ctu.friendly = false → t.ctu.friendly = true →
          t.ssc.state = .deferred ∧ t.ssc.warn = none ∧ t.warnOut = false ∧ t.miu.view = some .deferred) ∧
        (s.ssc.state = .deferred → s.ctu.friendly = true → t.ctu.friendly = false →
          t.ssc.state = .warning ∧ t.ssc.warn = some 0 ∧ t.warnOut = true ∧ t.miu.view = some .warning) ∧
        ((t.ctu.friendly = s.ctu.friendly ∨ (s.ssc.state ≠ .warning ∧ s.ssc.state ≠ .deferred)) →
          t.ssc.state = s.ssc.state ∧ t.ssc.warn = u.ssc.warn ∧ t.warnOut = u.warnOut) ∧
        t.ctu.issued = (if s.ctu.issued = none ∧ s.ace.lastQ < n / 900 then some (s.ace.lastQ + 1)
          else s.ctu.issued) ∧
        t.ctu.active = s.ctu.active ∧ t.ctu.pending = s.ctu.pending ∧ t.ctu.trim = s.ctu.trim ∧
        t.ctu.elapsed = u.ctu.elapsed ∧ t.ace = s.ace ∧ t.cru = s.cru ∧ t.comm = s.comm ∧ t.pins = s.pins ∧
        t.psv = u.psv) ∧
    (s.ctu.clock.count = 4294967295 → s.psv.power.running = true → s.commissioned = true →
      ∃ t, exec .clockSecond s = .next t ∧ t.ctu.clock = { count := 0, valid := false, sub := 0 } ∧
        t.ctu.band = 0 ∧ t.ctu.friendly = false ∧ t.ctu.elapsed = some 0 ∧ unseen .clock t = true ∧
        t.ssc.friendly = false ∧ t.ssc.causes = s.ssc.causes ∧
        (s.ssc.state = .deferred → s.ctu.friendly = true →
          t.ssc.state = .warning ∧ t.ssc.warn = some 0 ∧ t.warnOut = true ∧ t.miu.view = some .warning) ∧
        ((s.ctu.friendly = false ∨ s.ssc.state ≠ .deferred) → t.ssc.state = s.ssc.state ∧ t.ssc.warn = u.ssc.warn) ∧
        t.ctu.active = s.ctu.active ∧ t.ctu.pending = s.ctu.pending ∧ t.ctu.trim = s.ctu.trim ∧
        t.ace = s.ace ∧ t.cru = s.cru ∧ t.comm = s.comm)

/-- A tick charges a ninety-sixth of the standing charge through the residue (R28, R29, R31, R60 to R62, R124): a named tick above the last charged quarter, which it becomes, or one that names no quarter. A named tick not above it charges nothing. A new day ends the trip day. The model's own conventions in it: log entries 7, 10 and 26. -/
def Obligations.TicksChargeTheStandingCharge : Prop :=
  ∀ (s : State) (k : Commission), s.comm = some k → s.psv.power.running = true → storeAtRest s = true →
    s.ace.floor ≤ s.ace.c → s.ace.b ≤ Config.debtMax → s.ace.balanceCharges ≤ Config.totalMax →
    s.ace.debtCharges ≤ Config.totalMax →
    (s.ctu.pending = .none ∨ ∃ tf, s.ctu.pending = .editing tf) →
    let total := s.ace.q + s.ctu.active.standing
    let room := (s.ace.c - s.ace.floor).toNat
    let charged := fun t : State =>
      t.ace.q = total % 96 ∧ t.ace.c = max s.ace.floor (s.ace.c - (total / 96 : Nat)) ∧
      t.ace.b = min Config.debtMax (s.ace.b + (total / 96 - room)) ∧
      t.ace.balanceCharges = min Config.totalMax (s.ace.balanceCharges + min (total / 96) room) ∧
      t.ace.debtCharges = min Config.totalMax (s.ace.debtCharges + (total / 96 - room)) ∧
      t.ace.d = s.ace.d ∧ t.ace.reg = s.ace.reg ∧ t.ace.creditApplied = s.ace.creditApplied ∧
      t.ace.debtRecovered = s.ace.debtRecovered
    (∀ q, s.ctu.issued = some q →
      ∃ t, exec .quarterTick s = .next t ∧ t.now = s.now ∧ t.cru = s.cru ∧ t.comm = s.comm ∧ t.psv = s.psv ∧
        t.pins = s.pins ∧ t.ctu.clock = s.ctu.clock ∧ t.ctu.active = s.ctu.active ∧
        t.ctu.pending = s.ctu.pending ∧ t.ctu.band = s.ctu.band ∧
        (s.ace.lastQ < q → charged t ∧ t.ace.lastQ = q ∧
          t.ctu.issued = if s.ctu.clock.valid ∧ q < s.ctu.clock.count / 900 then some (q + 1) else none) ∧
        (q ≤ s.ace.lastQ → t.ace = s.ace) ∧
        (q % 96 = 0 → t.ssc.trips = 0 ∧ t.ssc.tripDay = none ∧
          (s.ssc.restore = none → t.ssc.causes.overload = false)) ∧
        (q % 96 ≠ 0 → t.ssc.trips = s.ssc.trips ∧ t.ssc.tripDay = s.ssc.tripDay) ∧
        (s.stc.write = none → s.stc.saving = false → checkpointAsked false s t)) ∧
    (∀ n, s.ctu.elapsed = some n →
      let u := elapse (921600 - n) s
      ∃ t, exec .elapsedTickExpiry s = .next t ∧ t.now = u.now ∧ charged t ∧ t.ace.lastQ = s.ace.lastQ ∧
        t.ctu = { u.ctu with elapsed := some 0 } ∧ t.cru = s.cru ∧ t.comm = s.comm ∧ t.psv = u.psv ∧
        t.ssc.trips = s.ssc.trips)

/-- A scheduled tariff whose target the tick reaches is active before the tick is charged (R62, R66, R68): its standing charge, its band. In RUN and HOLDUP TARIFF is raised; in STARTUP the mark that raises it at entry to RUN is set. A target the tick does not reach stays. The model's own conventions in it: log entry 26. -/
def Obligations.DueTariffBecomesActiveAtTick : Prop :=
  ∀ (s : State) (k : Commission) (q : Nat) (tf : Tariff) (target : Target), s.comm = some k →
    storeAtRest s = true → s.ctu.issued = some q → s.ace.lastQ < q → s.ctu.pending = .scheduled tf target →
    s.ssc.friendly = s.ctu.friendly →
    ∃ t, exec .quarterTick s = .next t ∧ t.ace.lastQ = q ∧ t.cru = s.cru ∧ t.ctu.clock = s.ctu.clock ∧
      ((target = .nextTick ∨ ∃ x, target = .quarter x ∧ x ≤ q) →
        t.ctu.active = tf ∧ t.ctu.pending = .none ∧ t.ace.q = (s.ace.q + tf.standing) % 96 ∧
        (s.ctu.clock.valid = true →
          t.ctu.band = tf.bandAt (s.ctu.clock.count / 86400) (s.ctu.clock.count % 86400 / 900)) ∧
        (s.ctu.clock.valid = false → t.ctu.band = 0) ∧
        (s.psv.power.running = true → unseen .tariff t = true ∧ t.ctu.startMark = s.ctu.startMark) ∧
        (∀ n kind, s.psv.power = .startup n kind → t.ctu.startMark = true ∧ (s.stc.write.isSome → t.lkp = s.lkp))) ∧
      (∀ x, target = .quarter x → q < x →
        t.ctu.active = s.ctu.active ∧ t.ctu.pending = s.ctu.pending ∧
        t.ace.q = (s.ace.q + s.ctu.active.standing) % 96 ∧ t.ctu.band = s.ctu.band)

/-! ### The store -/

/-- A ROUTINE checkpoint request behind a write turns URGENT once it has waited 60 s (R156). A checkpoint that verifies good is the newest, and the entries it folds are unfolded no more (R152, R154); a waiting JOURNAL is taken next (R157). The model's own conventions in it: log entries 2, 7 and 10. -/
def Obligations.CheckpointRequestsAgeAndFold : Prop :=
  ∀ s : State,
    (∀ r, storeAtRest s = true → s.stc.checkpointWaiting = some r → r.urgent = false →
      let u := elapse (r.placed + 61440 - s.now) s
      exec .routineRequestAged s = .next
        (u.setStc { s.stc with checkpointWaiting := some { urgent := true, placed := r.placed } })) ∧
    (∀ i b c, s.psv.power.running = true → s.stc.write = some { slot := i, second := b, job := .checkpoint c } →
      s.stc.saveWaiting = none → s.stc.checkpointWaiting = none →
      let folded : Stc := { s.stc with
        checkpoints := s.stc.checkpoints.setIfInBounds i (.holding c)
        newest := some { slot := i, number := c.number, folded := c.folded }
        nextCheckpoint := if c.number < 4294967295 then c.number + 1 else Config.numberAfterLast c.number
        unfolded := s.stc.unfolded.filter fun n => c.folded < n
        write := none }
      (s.stc.journalWaiting = none → exec (.checkpointWriteComplete true) s = .next (s.setStc folded)) ∧
      (∀ r j, s.stc.journalWaiting = some r → folded.journalSlot = some j →
        exec (.checkpointWriteComplete true) s = .next (s.setStc { folded with
          journalWaiting := none, journal := s.stc.journal.setIfInBounds j .torn
          write := some { slot := j, second := false, job := .journal r.entry } })))

/-- A write that verifies bad marks its slot (R158). The first attempt goes on in a second slot; after the second the STORE alert stands, and the code of a failed journal write is refused STORE with nothing recorded (R93, R159). The model's own conventions in it: log entry 31. -/
def Obligations.BadWritesMarkTheirSlot : Prop :=
  ∀ (s : State) (i : Nat) (k : Commission), s.psv.power = .run → s.comm = some k →
    s.stc.saveWaiting = none → s.stc.journalWaiting = none → s.stc.checkpointWaiting = none →
    (∀ e, s.stc.write = some { slot := i, second := false, job := .journal e } →
      let m := ({ s.stc with journal := s.stc.journal.setIfInBounds i .bad } : Stc).judged
      ∀ j, m.journalSlot = some j →
        exec .journalWriteBad s = .next (s.setStc { m with
          journal := m.journal.setIfInBounds j .torn
          write := some { slot := j, second := true, job := .journal e } })) ∧
    (∀ e, s.stc.write = some { slot := i, second := true, job := .journal e } → s.lkp.outbox.length < 4 →
      ∃ t, exec .journalWriteBad s = .next t ∧
        t.stc = { ({ s.stc with journal := s.stc.journal.setIfInBounds i .bad } : Stc).judged with write := none } ∧
        t.cru = { s.cru with inFlight := none } ∧ t.lkp.inService = none ∧
        t.lkp.outbox = s.lkp.outbox ++
          [{ status := .refused, type := 3, payload := 13#8 :: (be 1 e.cls ++ be 2 e.seq) }] ∧
        unseen .store t = true ∧ t.ace = s.ace ∧ t.ctu = s.ctu ∧ t.ssc = s.ssc ∧ t.tmn = s.tmn ∧ t.psv = s.psv) ∧
    (∀ c, s.stc.write = some { slot := i, second := false, job := .checkpoint c } →
      let m := ({ s.stc with checkpoints := s.stc.checkpoints.setIfInBounds i .bad } : Stc).judged
      ∀ j, m.checkpointSlot = some j →
        exec (.checkpointWriteComplete false) s = .next (s.setStc { m with
          checkpoints := m.checkpoints.setIfInBounds j .torn
          write := some { slot := j, second := true, job := .checkpoint c } })) ∧
    (∀ c, s.stc.write = some { slot := i, second := true, job := .checkpoint c } →
      ∃ t, exec (.checkpointWriteComplete false) s = .next t ∧
        t.stc = { ({ s.stc with checkpoints := s.stc.checkpoints.setIfInBounds i .bad } : Stc).judged with
          write := none } ∧
        unseen .store t = true ∧ t.cru = s.cru ∧ t.lkp.outbox = s.lkp.outbox ∧ t.ace = s.ace ∧ t.ctu = s.ctu ∧
        t.ssc = s.ssc ∧ t.tmn = s.tmn ∧ t.psv = s.psv)

/-! ### Codes committed -/

/-- The good end of a journal write in RUN or HOLDUP commits its code, of whatever class (R92, R94, R83, R151, R152, R169): the entry stands in its slot and is unfolded, the record is in the redeemed list and H and the rejection run follow, the applied journal number is the entry's, no code is in flight, and the SUBMIT is answered ACCEPTED with class, sequence and the class's own outcome. KEY_LO alone then empties the redeemed list (R100). A fourth unfolded entry or a later one asks for an urgent checkpoint, which folds it (R152); in HOLDUP the SAVE that waited follows with the effect in it (R161). The model's own conventions in it: log entries 7 and 24. -/
def Obligations.CommitRecordsTheCode : Prop :=
  ∀ (s : State) (slot : Nat) (e : JournalEntry) (c : Instr), commitTaken s slot e = true →
    classCommand e.cls = some c → (parseAction e.cls e.payload).isSome = true →
    (e.cls = 13 → s.cru.staged.isSome = true) →
    ∃ t rest, exec c s = .next t ∧ t.stc.journal = s.stc.journal.setIfInBounds slot (.holding e) ∧
      t.stc.newestJournal = some slot ∧ t.stc.unfolded = s.stc.unfolded ++ [e.number] ∧
      (e.number < 4294967295 → t.stc.nextJournal = e.number + 1) ∧ t.psv = { s.psv with applied := e.number } ∧
      t.cru.inFlight = none ∧ t.cru.run = none ∧ t.cru.lockEnd = s.cru.lockEnd ∧
      (e.cls ≠ 13 → t.cru.h = (s.cru.record e).h ∧ t.cru.redeemed = (s.cru.record e).redeemed ∧
        t.cru.key = s.cru.key) ∧
      (e.cls = 13 → t.cru.h = none ∧ t.cru.redeemed = []) ∧
      t.lkp.outbox = s.lkp.outbox ++
        [{ status := .ok, type := 3, payload := 0#8 :: (be 1 e.cls ++ be 2 e.seq ++ rest) }] ∧
      t.lkp.inService = none ∧ t.lkp.rx = s.lkp.rx ∧ t.comm = s.comm ∧ t.pins = s.pins ∧ t.now = s.now ∧
      (∀ i, s.stc.checkpointSlot = some i →
        (s.psv.power = .run → 3 ≤ s.stc.unfolded.length → ∃ p,
          t.stc.write = some { slot := i, second := false, job := .checkpoint p } ∧
          p.folded = e.number ∧ p.ace = t.ace ∧ p.redeemed = t.cru.redeemed ∧
          t.stc.checkpointWaiting = none) ∧
        (s.psv.power = .holdup → s.stc.saveWaiting.isSome = true → ∃ p,
          t.stc.write = some { slot := i, second := false, job := .save p } ∧
          p.folded = e.number ∧ p.ace = t.ace ∧ p.redeemed = t.cru.redeemed ∧
          t.stc.saveWaiting = none))

/-- CREDIT (R36, R37, R39, R25, R33, R42, R107 to R109, R111, R114, R126, R153 to R157): the debt share first, the rest to the balance under its cap, an emergency advance ended at 0 or above; the reply carries the resulting C. Where CREDIT alone stood and drops, WARNING and DEFERRED end in CLOSED with timer and WARN stopped, SUPPLY raised and an urgent checkpoint on its way; OPEN goes to ARMED, where no coil is driven, and under the release waiver to CLOSING with no press. That the checkpoint so started holds the event's effects rests on log entry 7. The model's own conventions in it: log entry 7. -/
def Obligations.CreditCommitMovesMoney : Prop :=
  ∀ (s : State) (slot : Nat) (e : JournalEntry), commitReady s slot e = true → e.cls = 0 →
    0 < e.payload.toNat → s.ace.share ≤ 100 → s.ace.c ≤ Config.balanceMax → conductingSettled s = true →
    let amount := e.payload.toNat
    let r := min s.ace.b (amount * s.ace.share / 100)
    let c : Int := min 9999990000 (s.ace.c + amount - r)
    ∃ t, exec .credit s = .next t ∧ t.ace.c = c ∧ t.ace.b = s.ace.b - r ∧
      t.ace.debtRecovered = min Config.totalMax (s.ace.debtRecovered + r) ∧
      t.ace.creditApplied = min Config.totalMax (s.ace.creditApplied + (c - s.ace.c).toNat) ∧
      t.ace.balanceCharges = s.ace.balanceCharges ∧ t.ace.debtCharges = s.ace.debtCharges ∧
      t.ace.d = s.ace.d ∧ t.ace.q = s.ace.q ∧ t.ace.reg = s.ace.reg ∧ t.ace.lastQ = s.ace.lastQ ∧
      t.ace.cmax = s.ace.cmax ∧ t.ace.e = s.ace.e ∧ t.ace.lc = s.ace.lc ∧ t.ace.share = s.ace.share ∧
      (∀ n, s.ace.em = .inUse n → c < 0 → t.ace.em = .inUse n) ∧
      (((∀ n, s.ace.em ≠ .inUse n) ∨ 0 ≤ c) →
        t.ace.em = if 0 < s.ace.e ∧ c ≤ s.ace.lc then .offered else .unavailable) ∧
      t.ssc.causes = { s.ssc.causes with credit := decide (c ≤ t.ace.floor) } ∧
      t.ctu = s.ctu ∧ t.cru.staged = s.cru.staged ∧ t.tmn.history = s.tmn.history ∧
      t.lkp.outbox = s.lkp.outbox ++
        [{ status := .ok, type := 3, payload := [0#8, 0#8] ++ be 2 e.seq ++ beInt 5 c }] ∧
      (s.ssc.causes.credit = decide (c ≤ t.ace.floor) →
        t.ssc.state = s.ssc.state ∧ t.ssc.run = s.ssc.run ∧ t.ssc.warn = s.ssc.warn) ∧
      (s.ssc.causes = { credit := true, tamper := false, overload := false, remote := false } →
        (0 < c ∨ ∃ n : Nat, s.ace.em = .inUse n ∧ c < 0 ∧ -(n : Int) < c) →
        ((s.ssc.state = .warning ∨ s.ssc.state = .deferred) →
          t.ssc.state = .closed ∧ t.ssc.run = s.ssc.run ∧ t.ssc.warn = none ∧ t.warnOut = false ∧
          unseen .supply t = true ∧ t.miu.view = some .closed ∧
          (∀ i, s.stc.checkpointSlot = some i →
            ∃ p, t.stc.write = some { slot := i, second := false, job := .checkpoint p } ∧ p.supply = .closed ∧
              p.ace = t.ace)) ∧
        (s.ssc.state = .opened → s.ssc.waiver = false →
          t.ssc.state = .armed ∧ t.ssc.run = s.ssc.run ∧ unseen .supply t = true ∧ t.miu.view = some .armed) ∧
        (s.ssc.state = .opened → s.ssc.waiver = true →
          t.ssc.state = .closing ∧ t.ssc.waiver = false ∧ t.miu.view = some .closing ∧
          t.ssc.run = some
            { dir := .toClose, attempt := 1, step := if s.pins.reservoirReady then .pulse else .reservoir
              ticks := 0, lastFail := none, abandoned := false }))

/-- LIMIT and DEBT set what they name and nothing else of the account (R43, R44, R18, R40, R35, R95); a LIMIT of the power limit returns both over-limit runs to 0, whatever its value; the replies carry the new settings. The model's own conventions in it: log entry 38. -/
def Obligations.LimitAndDebtCommits : Prop :=
  ∀ (s : State) (slot : Nat) (e : JournalEntry), commitReady s slot e = true →
    (parseAction e.cls e.payload).isSome = true →
    let top := e.payload.toNat / 2 ^ 24
    let v := e.payload.toNat % 2 ^ 24
    let said := fun (t : State) (rest : List Byte) =>
      t.lkp.outbox = s.lkp.outbox ++
        [{ status := .ok, type := 3, payload := 0#8 :: (be 1 e.cls ++ be 2 e.seq ++ be 1 top ++ rest) }]
    let rest := fun t : State => t.ctu = s.ctu ∧ t.tmn = s.tmn ∧ t.stc.write = none ∧
      t.ssc.causes = s.ssc.causes ∧ t.ssc.state = s.ssc.state ∧ t.ssc.run = s.ssc.run
    (e.cls = 7 → ∃ t, exec .limit s = .next t ∧ rest t ∧
      said t (be 5 (if top = 3 then v else v * 10000)) ∧
      (top = 0 → t.ace = { s.ace with cmax := v * 10000 } ∧ t.miu = s.miu) ∧
      (top = 1 → t.ace = { s.ace with
          e := v * 10000
          em := match s.ace.em with
            | .inUse n => .inUse n
            | _ => if 0 < v ∧ s.ace.c ≤ s.ace.lc then .offered else .unavailable } ∧ t.miu = s.miu) ∧
      (top = 2 → t.ace = { s.ace with
          lc := v * 10000
          em := match s.ace.em with
            | .inUse n => .inUse n
            | _ => if 0 < s.ace.e ∧ s.ace.c ≤ v * 10000 then .offered else .unavailable } ∧
        t.ssc.low = decide (s.ace.c ≤ v * 10000) ∧ t.miu = s.miu) ∧
      (top = 3 → t.ace = s.ace ∧ t.ssc = s.ssc ∧ t.miu = { s.miu with
          wLim := v, line := { s.miu.line with overRun := 0 }, ret := { s.miu.ret with overRun := 0 } })) ∧
    (e.cls = 8 → ∃ t, exec .debt s = .next t ∧ rest t ∧ t.ace = { s.ace with b := v * 10000, share := top } ∧
      t.miu = s.miu ∧ t.ssc = s.ssc ∧
      t.lkp.outbox = s.lkp.outbox ++
        [{ status := .ok, type := 3, payload := [0#8, 8#8] ++ be 2 e.seq ++ be 5 (v * 10000) ++ be 1 top }])

/-- The five editing classes write their one part of the pending tariff (R63, R64, section 10.5): a copy of the active one where none is pending, the pending one otherwise, which is EDITING after it. The active tariff stands; the reply names the edit outcome. -/
def Obligations.EditCommitsWriteThePendingTariff : Prop :=
  ∀ (s : State) (slot : Nat) (e : JournalEntry), commitReady s slot e = true →
    (parseAction e.cls e.payload).isSome = true →
    let b3 := e.payload.toNat / 2 ^ 24
    let b2 := e.payload.toNat / 2 ^ 16 % 256
    let b1 := e.payload.toNat / 2 ^ 8 % 256
    let b0 := e.payload.toNat % 256
    let base := match s.ctu.pending with
      | .none => s.ctu.active
      | .editing t => t
      | .scheduled t _ => t
    let outcome : Byte := match s.ctu.pending with
      | .none => 0
      | .editing _ => 1
      | .scheduled _ _ => 2
    let edited := fun (t : State) (x : Tariff) =>
      t.ctu = { s.ctu with pending := .editing x } ∧ t.ace = s.ace ∧ t.miu = s.miu ∧ t.ssc = s.ssc ∧
      t.tmn = s.tmn ∧ t.stc.write = none ∧ t.lkp.alerts = s.lkp.alerts ∧
      t.lkp.outbox = s.lkp.outbox ++
        [{ status := .ok, type := 3, payload := 0#8 :: (be 1 e.cls ++ be 2 e.seq ++ [outcome]) }]
    (e.cls = 1 → ∃ t, exec .rate s = .next t ∧
      edited t { base with rates := base.rates.setIfInBounds b3 (e.payload.toNat % 2 ^ 24) }) ∧
    (e.cls = 2 → ∃ t, exec .switchPoint s = .next t ∧ ∃ band : Fin 4, band.val = b0 ∧
      let point := { quarter := if b1 = 127 then none else some b1, band := band : SwitchPoint }
      edited t { base with switches := base.switches.setIfInBounds (b3 * 6 + b2) point }) ∧
    (e.cls = 3 → ∃ t, exec .special s = .next t ∧
      let day := if e.payload.toNat % 2 ^ 16 = 65535 then none else some (e.payload.toNat % 2 ^ 16)
      edited t { base with specials := base.specials.setIfInBounds b3 day }) ∧
    (e.cls = 4 → ∃ t, exec .friendly s = .next t ∧
      edited t { base with windows := base.windows.setIfInBounds (b3 * 2 + b2) { start := b1, stop := b0 } }) ∧
    (e.cls = 6 → ∃ t, exec .standing s = .next t ∧ edited t { base with standing := e.payload.toNat })

/-- ACTIVATE gives the pending tariff its target (R66): the next tick for day 0 or a day that the recorded clock has reached, else midnight of the day; the reply carries outcome and target. With nothing pending nothing changes, and the reply is NOTHING_PENDING with FFFFFFFF hex (log entry 20). -/
def Obligations.ActivateCommitSchedules : Prop :=
  ∀ (s : State) (slot : Nat) (e : JournalEntry), commitReady s slot e = true → e.cls = 5 →
    e.payload.toNat ≤ 65535 →
    let day := e.payload.toNat
    let nearby := day = 0 ∨ ∃ c, e.time = .secs c ∧ day ≤ c / 86400
    ∃ t, exec .activate s = .next t ∧ t.ace = s.ace ∧ t.miu = s.miu ∧ t.ssc = s.ssc ∧ t.tmn = s.tmn ∧
      t.lkp.alerts = s.lkp.alerts ∧
      (∀ tf, (s.ctu.pending = .editing tf ∨ ∃ g, s.ctu.pending = .scheduled tf g) →
        (nearby → t.ctu = { s.ctu with pending := .scheduled tf .nextTick } ∧
          t.lkp.outbox = s.lkp.outbox ++
            [{ status := .ok, type := 3
               payload := [0#8, 5#8] ++ be 2 e.seq ++ [0#8, 0xFF#8, 0xFF#8, 0xFF#8, 0xFF#8] }]) ∧
        (¬ nearby → t.ctu = { s.ctu with pending := .scheduled tf (.quarter (day * 96)) } ∧
          t.lkp.outbox = s.lkp.outbox ++
            [{ status := .ok, type := 3, payload := [0#8, 5#8] ++ be 2 e.seq ++ [1#8] ++ be 4 (day * 96) }])) ∧
      (s.ctu.pending = .none → t.ctu = s.ctu ∧
        t.lkp.outbox = s.lkp.outbox ++
          [{ status := .ok, type := 3
             payload := [0#8, 5#8] ++ be 2 e.seq ++ [2#8, 0xFF#8, 0xFF#8, 0xFF#8, 0xFF#8] }])

/-- TAMPER_CLEAR takes the named latches whose condition has gone, appends the set cleared, and names the set kept (R140); POLICY sets one kind's policy (R141). After either, TAMPER is in the cause set exactly while a latched kind has policy OPEN (R138). -/
def Obligations.TamperClearAndPolicyCommits : Prop :=
  ∀ (s : State) (slot : Nat) (e : JournalEntry), commitReady s slot e = true →
    (parseAction e.cls e.payload).isSome = true → s.ssc.loadSide = false → s.miu.conducting = false →
    let said := fun (t : State) (rest : List Byte) =>
      t.lkp.outbox = s.lkp.outbox ++
        [{ status := .ok, type := 3, payload := 0#8 :: (be 1 e.cls ++ be 2 e.seq ++ rest) }]
    let judged := fun t : State => t.ace = s.ace ∧ t.ctu = s.ctu ∧ t.tmn.views = s.tmn.views ∧
      (t.ssc.causes.tamper = true ↔
        ∃ i : Fin 8, t.tmn.records[i].latched = true ∧ t.tmn.records[i].policy = .openSupply)
    (e.cls = 9 → ∃ t, exec .tamperClear s = .next t ∧ judged t ∧
      (∀ i : Fin 8, t.tmn.records[i] = { s.tmn.records[i] with
        latched := s.tmn.records[i].latched && !(e.payload.getLsbD i && !s.tmn.records[i].active) }) ∧
      ∃ cleared kept : BitVec 8,
        (∀ i : Fin 8, cleared.getLsbD i =
          (e.payload.getLsbD i && s.tmn.records[i].latched && !s.tmn.records[i].active)) ∧
        (∀ i : Fin 8, kept.getLsbD i =
          (e.payload.getLsbD i && s.tmn.records[i].latched && s.tmn.records[i].active)) ∧
        t.tmn.history = ({ time := s.stamp, kind := .tamperCleared cleared } :: s.tmn.history).take 32 ∧
        said t [kept]) ∧
    (e.cls = 10 → ∃ t, exec .policy s = .next t ∧ judged t ∧ t.tmn.history = s.tmn.history ∧
      (∀ i : Fin 8, i.val ≠ e.payload.toNat / 256 → t.tmn.records[i] = s.tmn.records[i]) ∧
      (∀ i : Fin 8, i.val = e.payload.toNat / 256 → ∃ p, Policy.code p = e.payload.toNat % 256 ∧
        t.tmn.records[i] = { s.tmn.records[i] with policy := p }) ∧
      ∃ latches : BitVec 8, (∀ i : Fin 8, latches.getLsbD i = s.tmn.records[i].latched) ∧
        said t [latches, if t.ssc.causes.tamper then 1#8 else 0#8])

/-- CLOCK sets the clock and the last charged quarter, charges nothing, stops the elapsed-tick timer, judges band and friendly flag, and carries out a scheduled activation that the new clock has reached (R53, R58, R96, R71). The second now running is the model's choice (log entry 6). The model's own conventions in it: log entries 6 and 7. -/
def Obligations.ClockCommitSetsTheClock : Prop :=
  ∀ (s : State) (slot : Nat) (e : JournalEntry), commitReady s slot e = true → e.cls = 11 →
    let n := e.payload.toNat
    ∃ t, exec .clock s = .next t ∧
      t.ctu.clock = { count := n, valid := true, sub := if s.ctu.clock.valid then s.ctu.clock.sub else 0 } ∧
      t.ctu.elapsed = none ∧ t.ctu.trim = s.ctu.trim ∧ t.ace = { s.ace with lastQ := n / 900 } ∧
      t.ctu.band = t.ctu.active.bandAt (n / 86400) (n % 86400 / 900) ∧
      t.ctu.friendly = t.ctu.active.friendlyAt (n / 86400) (n % 86400 / 900) ∧
      ((s.ctu.pending = .none ∨ (∃ tf, s.ctu.pending = .editing tf) ∨
          (∃ tf, s.ctu.pending = .scheduled tf .nextTick) ∨
          ∃ tf x, s.ctu.pending = .scheduled tf (.quarter x) ∧ n / 900 < x) →
        t.ctu.active = s.ctu.active ∧ t.ctu.pending = s.ctu.pending) ∧
      (∀ tf x, s.ctu.pending = .scheduled tf (.quarter x) → x ≤ n / 900 →
        t.ctu.active = tf ∧ t.ctu.pending = .none ∧ unseen .tariff t = true) ∧
      t.lkp.outbox = s.lkp.outbox ++
        [{ status := .ok, type := 3, payload := [0#8, 11#8] ++ be 2 e.seq ++ be 4 n ++ be 1 t.ctu.band.val }] ∧
      (∀ i, s.stc.checkpointSlot = some i →
        ∃ c, t.stc.write = some { slot := i, second := false, job := .checkpoint c } ∧ c.folded = e.number ∧
          c.ace = t.ace ∧ c.active = t.ctu.active ∧ c.redeemed = t.cru.redeemed)

/-- KEY_HI stages a half, saying whether one stood already (R99); KEY_LO makes the key of both halves, empties the staged half, H, the redeemed list and the rejection run, appends KEY_CHANGED and asks for an urgent checkpoint (R100). The model's own conventions in it: log entry 7. -/
def Obligations.KeyCommits : Prop :=
  ∀ (s : State) (slot : Nat) (e : JournalEntry), commitReady s slot e = true →
    (e.cls = 12 → ∃ t, exec .keyHi s = .next t ∧ t.cru.staged = some e.payload ∧ t.cru.key = s.cru.key ∧
      t.ace = s.ace ∧ t.ctu = s.ctu ∧ t.ssc = s.ssc ∧ t.miu = s.miu ∧ t.tmn = s.tmn ∧ t.stc.write = none ∧
      t.lkp.outbox = s.lkp.outbox ++
        [{ status := .ok, type := 3
           payload := [0#8, 12#8] ++ be 2 e.seq ++ [if s.cru.staged.isSome then 1#8 else 0#8] }]) ∧
    (∀ hi, e.cls = 13 → s.cru.staged = some hi → ∃ t, exec .keyLo s = .next t ∧
      t.cru = { key := some (hi ++ e.payload), staged := none, h := none, redeemed := [], run := none,
                lockEnd := s.cru.lockEnd, inFlight := none } ∧
      t.ace = s.ace ∧ t.ctu = s.ctu ∧ t.ssc = s.ssc ∧ t.miu = s.miu ∧ t.tmn.records = s.tmn.records ∧
      t.tmn.history = ({ time := s.stamp, kind := .keyChanged } :: s.tmn.history).take 32 ∧
      t.lkp.outbox = s.lkp.outbox ++
        [{ status := .ok, type := 3, payload := [0#8, 13#8] ++ be 2 e.seq ++ [0#8] }] ∧
      (∀ i, s.stc.checkpointSlot = some i →
        ∃ c, t.stc.write = some { slot := i, second := false, job := .checkpoint c } ∧
          c.key = some (hi ++ e.payload) ∧ c.redeemed = [] ∧ c.history = t.tmn.history))

/-- SUPPLY 0 makes REMOTE present and 1 removes it (R98, R125, R105): CLOSED opens; OPEN for REMOTE alone closes with no press (R111); ARMED goes back to OPEN (R113). The reply carries REMOTE and the supply state. -/
def Obligations.SupplyCommit : Prop :=
  ∀ (s : State) (slot : Nat) (e : JournalEntry), commitReady s slot e = true → e.cls = 14 →
    e.payload.toNat ≤ 1 → conductingSettled s = true →
    let attempt := fun dir : Direction =>
      { dir := dir, attempt := 1, step := if s.pins.reservoirReady then .pulse else .reservoir, ticks := 0
        lastFail := none, abandoned := false : DriveRun }
    ∃ t, exec .supply s = .next t ∧
      t.ssc.causes = { s.ssc.causes with remote := decide (e.payload.toNat = 0) } ∧ t.ace = s.ace ∧
      t.ctu = s.ctu ∧ t.tmn.history = s.tmn.history ∧
      t.lkp.outbox = s.lkp.outbox ++
        [{ status := .ok, type := 3
           payload := [0#8, 14#8] ++ be 2 e.seq ++
             [if e.payload.toNat = 0 then 1#8 else 0#8, BitVec.ofNat 8 (SupplyState.code t.ssc.state)] }] ∧
      (s.ssc.causes.remote = decide (e.payload.toNat = 0) → t.ssc = s.ssc ∧ t.tmn = s.tmn ∧ t.miu = s.miu) ∧
      (e.payload.toNat = 0 → s.ssc.causes.remote = false → s.ssc.state = .closed →
        t.ssc.state = .opening ∧ t.ssc.run = some (attempt .toOpen) ∧ t.ssc.waiver = false) ∧
      (e.payload.toNat = 1 → s.ssc.state = .opened →
        s.ssc.causes = { credit := false, tamper := false, overload := false, remote := true } →
        t.ssc.state = .closing ∧ t.ssc.run = some (attempt .toClose) ∧ t.ssc.waiver = false) ∧
      (e.payload.toNat = 0 → s.ssc.causes.remote = false → s.ssc.state = .armed →
        t.ssc.state = .opened ∧ t.ssc.run = s.ssc.run ∧ unseen .supply t = true)

/-! ### Codes submitted -/

/-- A code made under the part's key, within the sequence window, in range and fitting the present state, is accepted (R74, R78 to R86, R90, R191): it is the code in flight, its entry's write starts in the next free journal slot, or waits behind the write in flight, and the SUBMIT stays in service with no reply yet. The model's own conventions in it: log entries 7 and 16. -/
def Obligations.SubmitAcceptsAWellMadeCode : Prop :=
  ∀ (s : State) (k : Commission) (key : BitVec 64) (cls seq : Nat) (payload : BitVec 32) (a : CodeAction),
    linkReady s = true → s.comm = some k → s.cru.key = some key → s.cru.inFlight = none → s.cru.lockEnd = none →
    s.stc.health ≠ .failed → cls < 15 → seq < 65536 → sequenceCheck seq s.cru = none →
    parseAction cls payload = some a →
    (cls = 0 → s.ace.c + payload.toNat - min s.ace.b (payload.toNat * s.ace.share / 100) ≤ s.ace.cmax) →
    (cls = 5 → s.ctu.pending ≠ .none) → (cls = 13 → s.cru.staged.isSome = true) →
    let e := { number := s.stc.nextJournal, cls := cls, seq := seq, payload := payload, time := s.stamp : JournalEntry }
    ∀ j, s.stc.journalSlot = some j →
    ∃ t, exec (.submit (issuedCode key cls seq payload)) s = .next t ∧ t.cru = { s.cru with inFlight := some e } ∧
      t.lkp = { s.lkp with rx := { state := .hunt, lastByte := s.now }, inService := some 3 } ∧
      (s.stc.write = none → t.stc = { s.stc with
        journal := s.stc.journal.setIfInBounds j .torn
        write := some { slot := j, second := false, job := .journal e } }) ∧
      (s.stc.write.isSome = true → t.stc = { s.stc with
        journalWaiting := some { entry := e, placed := s.now } }) ∧
      t.ace = s.ace ∧ t.ctu = s.ctu ∧ t.ssc = s.ssc ∧ t.tmn = s.tmn ∧ t.miu = s.miu ∧ t.psv = s.psv ∧
      t.now = s.now ∧ t.pins = s.pins ∧ t.comm = s.comm

/-- Every refusal of SUBMIT with its reply (R73 to R88, section 10.4). NOT_COMMISSIONED, BUSY, LOCKED, USED, STALE, VALUE, LIMIT, EMPTY and STORE change nothing but the link's own state, in the order of R74. FORMAT, CHECK and CLASS move the rejection run (R87): it starts, rises, starts afresh once it is 60 min old, or at the fifth turns into a lockout of 60 min with the CODE_LOCK alert and CODE_FLOOD told to TMN (R88). The lockout's end tells TMN that CODE_FLOOD has gone (R89, R135). The model's own conventions in it: log entries 10 and 16. -/
def Obligations.RefusalsRunIntoLockout : Prop :=
  ∀ (s : State) (digits : List Byte), digits.length ≤ 60 →
    let refused := fun payload : List Byte =>
      exec (.submit digits) s = .next (replied { status := .refused, type := 3, payload := payload } s)
    (linkReady s = true → (s.comm = none ∨ s.cru.key = none) → refused [2#8]) ∧
    (∀ (k : Commission) (key : BitVec 64), linkReady s = true → s.comm = some k → s.cru.key = some key →
      ((s.cru.inFlight.isSome = true ∨ s.stc.journalFull = true) → exec (.submit digits) s =
        .next (replied { status := .busy, type := 3, payload := [3#8] } s)) ∧
      (s.cru.inFlight = none → s.stc.journalFull = false →
        let plain := (parseDigits digits).map fun v => cutPlain (unscramble key v)
        (s.cru.lockEnd.isSome = true → refused [4#8]) ∧
        (∀ p, s.cru.lockEnd = none → plain = some p → p.check = checkOf p.cls p.seq p.payload → p.cls < 15 →
          let named := fun outcome : Byte => refused (outcome :: (be 1 p.cls ++ be 2 p.seq))
          (sequenceCheck p.seq s.cru = some .used → named 8) ∧
          (sequenceCheck p.seq s.cru = some .stale → named 9) ∧
          (sequenceCheck p.seq s.cru = none →
            (parseAction p.cls p.payload = none → named 10) ∧
            ((parseAction p.cls p.payload).isSome = true →
              let owed := min s.ace.b (p.payload.toNat * s.ace.share / 100)
              (p.cls = 0 → (s.ace.cmax : Int) < s.ace.c + p.payload.toNat - owed → named 11) ∧
              (p.cls = 5 → s.ctu.pending = .none → named 12) ∧
              (p.cls = 13 → s.cru.staged = none → named 10) ∧
              ((p.cls = 0 → s.ace.c + p.payload.toNat - owed ≤ s.ace.cmax) →
                (p.cls = 5 → s.ctu.pending ≠ .none) → (p.cls = 13 → s.cru.staged.isSome = true) →
                s.stc.health = .failed → named 13)))) ∧
        (∀ payload : List Byte, s.cru.lockEnd = none →
          (match plain with
            | none => payload = [5#8]
            | some p => (p.check ≠ checkOf p.cls p.seq p.payload ∧ payload = [6#8]) ∨
                (p.check = checkOf p.cls p.seq p.payload ∧ p.cls = 15 ∧ payload = 7#8 :: (be 1 15 ++ be 2 p.seq))) →
          let rejected := fun t : State =>
            t.lkp.outbox = s.lkp.outbox ++ [{ status := .refused, type := 3, payload := payload }] ∧
            t.lkp.inService = none ∧ t.ace = s.ace ∧ t.ctu = s.ctu ∧ t.cru.h = s.cru.h ∧
            t.cru.redeemed = s.cru.redeemed ∧ t.cru.key = s.cru.key
          ((s.cru.run = none ∨ ∃ r, s.cru.run = some r ∧ r.start + 3686400 ≤ (s.now : Int)) →
            ∃ t, exec (.submit digits) s = .next t ∧ rejected t ∧ t.cru.run = some { count := 1, start := s.now } ∧
              t.cru.lockEnd = none ∧ t.stc = s.stc ∧ t.tmn = s.tmn ∧ t.lkp.alerts = s.lkp.alerts) ∧
          (∀ r, s.cru.run = some r → (s.now : Int) < r.start + 3686400 → r.count < 4 →
            ∃ t, exec (.submit digits) s = .next t ∧ rejected t ∧
              t.cru.run = some { count := r.count + 1, start := r.start } ∧ t.cru.lockEnd = none ∧ t.stc = s.stc ∧
              t.tmn = s.tmn) ∧
          (∀ r, s.cru.run = some r → (s.now : Int) < r.start + 3686400 → r.count = 4 →
            s.tmn.views.codeFlood = false → s.tmn.records[7].active = false → conductingSettled s = true →
            ∃ t, exec (.submit digits) s = .next t ∧ rejected t ∧ t.cru.run = none ∧
              t.cru.lockEnd = some (s.now + 3686400) ∧ unseen .codeLock t = true ∧
              t.tmn.records[7].active = true ∧ t.tmn.records[7].count = min 65535 (s.tmn.records[7].count + 1) ∧
              t.tmn.records[7].last = some s.stamp ∧
              t.tmn.history =
                ({ time := s.stamp, kind := .tamperOn .codeFlood none } :: s.tmn.history).take 32)))) ∧
    (∀ x, s.cru.lockEnd = some x → storeAtRest s = true →
      let u := elapse (x - s.now) s
      ∃ t, exec .lockoutEnd s = .next t ∧ t.cru = { s.cru with lockEnd := none } ∧ t.now = u.now ∧
        t.tmn.views = { s.tmn.views with codeFlood := false } ∧ t.ace = s.ace ∧ t.ctu = u.ctu ∧ t.ssc = u.ssc ∧
        t.miu = u.miu ∧ t.tmn.history = s.tmn.history ∧
        (s.recordsLive = true → s.tmn.views.codeFlood = true → t.tmn.records[7].active = false))

/-! ### Provisioning -/

/-- PROVISION in RUN on an UNCOMMISSIONED part, OPEN for CREDIT and REMOTE (R199, R200, R126, section 10.4): number, P, key and clock stand, every block has its factory settings, the waiver is set, REMOTE is gone, a window opens, an urgent checkpoint of it all is on its way, and the reply is IDENT's payload. A meter byte that is no digit, or a P outside 100 to 20,000, is OUT_OF_RANGE, and on a commissioned part every PROVISION is REFUSED; neither changes anything but the link's own state (R199, R207). The applied number and the folded one are the newest entry's, one below the next journal number (R166, R169). The model's own conventions in it: log entries 2, 6, 7, 16 and 27. -/
def Obligations.ProvisionCommissionsThePart : Prop :=
  ∀ (s : State) (meter : List Byte) (key p secs : Nat), linkReady s = true → meter.length = 12 →
    key < 2 ^ 64 → p < 2 ^ 16 → secs < 2 ^ 32 →
    let request := Instr.provision (meter ++ be 8 key ++ be 2 p ++ be 4 secs)
    let good := (∀ b ∈ meter, 48 ≤ b.toNat ∧ b.toNat ≤ 57) ∧ 100 ≤ p ∧ p ≤ 20000
    (s.comm = none → ¬ good →
      exec request s = .next (replied { status := .outOfRange, type := 2, payload := [] } s)) ∧
    (s.comm = none → good → s.ssc.state = .opened →
      s.ssc.causes = { credit := true, tamper := false, overload := false, remote := true } →
      ∃ t, exec request s = .next t ∧ t.comm = some { meter := meter, p := p } ∧
        t.cru = { Cru.factory with key := some (BitVec.ofNat 64 key) } ∧
        t.ace = { Ace.factory with lastQ := secs / 900 } ∧
        t.ctu.clock = { count := secs, valid := true, sub := if s.ctu.clock.valid then s.ctu.clock.sub else 0 } ∧
        t.ctu.active = Tariff.factory ∧ t.ctu.pending = .none ∧ t.ctu.trim = none ∧ t.ctu.elapsed = none ∧
        t.miu.wLim = 0 ∧ t.miu.window.map (fun w => (w.start, w.nL, w.nR, w.rev)) = some (s.now, 0, 0, 0) ∧
        t.tmn.history = [] ∧ t.tmn.mark = false ∧
        (∀ i : Fin 8, t.tmn.records[i] = { Tmn.factoryRecords[i] with active := s.tmn.records[i].active }) ∧
        t.ssc.state = .opened ∧ t.ssc.waiver = true ∧ t.ssc.trips = 0 ∧ t.ssc.tripDay = none ∧
        t.ssc.restore = none ∧ t.ssc.low = true ∧ t.ssc.emInUse = false ∧
        t.ssc.causes = { credit := true, tamper := false, overload := false, remote := false } ∧
        t.stc.nextJournal = s.stc.nextJournal ∧ t.stc.unfolded = [] ∧
        t.psv = { s.psv with applied := s.stc.newestNumber } ∧
        (s.stc.nextJournal = s.stc.newestNumber + 1 → t.psv.applied = s.stc.nextJournal - 1) ∧
        t.lkp.outbox = s.lkp.outbox ++
          [{ status := .ok, type := 2
             payload := [0x57#8, 0xD3#8, 0#8, 0x40#8, 3#8, 1#8] ++ meter ++ be 2 p ++ [2#8] }] ∧
        (∀ i, s.stc.write = none → s.stc.checkpointSlot = some i →
          ∃ c, t.stc.write = some { slot := i, second := false, job := .checkpoint c } ∧
            c.number = s.stc.nextCheckpoint ∧ c.folded = s.stc.newestNumber ∧
            (s.stc.nextJournal = s.stc.newestNumber + 1 → c.folded = s.stc.nextJournal - 1) ∧ c.marker = true ∧
            c.comm = { meter := meter, p := p } ∧ c.ace = t.ace ∧ c.key = t.cru.key ∧ c.waiver = true)) ∧
    (s.comm.isSome = true → exec request s = .next (replied { status := .refused, type := 2, payload := [] } s))

/-! ### Requests that read -/

/-- The reads that answer from one record each, with the layouts of section 10.4, and change nothing but the link's own state (R193, R196, R197, R143, R104, R206, R207). An index or a selector past what there is is OUT_OF_RANGE. -/
def Obligations.ReadsReplyAndChangeNothing : Prop :=
  ∀ s : State, linkReady s = true →
    let reply := fun (ty : Nat) (p : List Byte) => replied { status := .ok, type := ty, payload := p } s
    let outside := fun ty : Nat => replied { status := .outOfRange, type := ty, payload := [] } s
    let time := fun x : Option Stamp => match x with
      | none => [0#8, 0#8, 0#8, 0#8, 0#8]
      | some (.secs n) => 1#8 :: be 4 n
      | some .clockInvalid => [2#8, 0#8, 0#8, 0#8, 0#8]
    (∀ k, s.comm = some k → exec (.ident []) s = .next (reply 1
      ([0x57#8, 0xD3#8, 0#8, 0x40#8, 3#8, 1#8] ++ k.meter ++ be 2 k.p ++ [2#8]))) ∧
    (s.comm = none → exec (.ident []) s = .next (reply 1
      ([0x57#8, 0xD3#8, 0#8, 0x40#8, 3#8, 0#8] ++ List.replicate 14 0#8 ++ [2#8]))) ∧
    (∀ (part : Nat) (content : Tariff → List Byte),
      ((part = 0 ∧ content = fun x => (x.rates.toList.map (be 4)).flatten ++ be 4 x.standing) ∨
        (part = 1 ∧ content = fun x =>
          (x.switches.toList.map (fun p => be 1 (p.quarter.getD 127) ++ be 1 p.band.val)).flatten) ∨
        (part = 2 ∧ content = fun x => (x.windows.toList.map (fun w => be 1 w.start ++ be 1 w.stop)).flatten ++
          (x.specials.toList.map (fun d => be 2 (d.getD 65535))).flatten)) →
      let target := match s.ctu.pending with
        | .scheduled _ (.quarter q) => be 4 q
        | _ => [0xFF#8, 0xFF#8, 0xFF#8, 0xFF#8]
      let header := fun selector : Byte => [selector, BitVec.ofNat 8 part] ++
        (match s.ctu.pending with
          | .none => [0#8]
          | .editing _ => [1#8]
          | .scheduled _ _ => [2#8]) ++ target
      exec (.readTariff [0#8, BitVec.ofNat 8 part]) s = .next (reply 5 (header 0 ++ content s.ctu.active)) ∧
      (s.ctu.pending = .none → exec (.readTariff [1#8, BitVec.ofNat 8 part]) s = .next (reply 5 (header 1))) ∧
      (∀ x, (s.ctu.pending = .editing x ∨ ∃ g, s.ctu.pending = .scheduled x g) →
        exec (.readTariff [1#8, BitVec.ofNat 8 part]) s = .next (reply 5 (header 1 ++ content x)))) ∧
    (∀ a b : Byte, (1 < a.toNat ∨ 2 < b.toNat) → exec (.readTariff [a, b]) s = .next (outside 5)) ∧
    (∀ i : Fin 8, let r := s.tmn.records[i]
      exec (.readTamper [BitVec.ofNat 8 i]) s = .next (reply 7
        ([BitVec.ofNat 8 i, BitVec.ofNat 8 (r.active.toNat + 2 * r.latched.toNat + 4 * sideCode r.side),
          BitVec.ofNat 8 r.policy.code] ++ be 2 r.count ++ time r.first ++ time r.last))) ∧
    (∀ a : Byte, 7 < a.toNat → exec (.readTamper [a]) s = .next (outside 7)) ∧
    (∀ (a : Byte) (e : Event), s.tmn.history[a.toNat]? = some e → exec (.readHistory [a]) s = .next (reply 8
      ([BitVec.ofNat 8 s.tmn.history.length, a] ++ time (some e.time) ++
        [BitVec.ofNat 8 e.kind.code, BitVec.ofNat 8 e.kind.detail]))) ∧
    (∀ a : Byte, s.tmn.history.length ≤ a.toNat → exec (.readHistory [a]) s = .next (outside 8)) ∧
    (∀ (a : Byte) (r : RedeemedRecord), s.cru.redeemed.reverse[a.toNat]? = some r →
      exec (.readRedeemed [a]) s = .next (reply 9
        ([BitVec.ofNat 8 s.cru.redeemed.length, if s.cru.h.isSome then 1#8 else 0#8] ++ be 2 (s.cru.h.getD 0) ++
          be 2 r.seq ++ be 1 r.cls ++ be 4 r.amount ++ time (some r.time) ++ be 4 r.number))) ∧
    (∀ a : Byte, s.cru.redeemed.length ≤ a.toNat → exec (.readRedeemed [a]) s = .next (outside 9))

/-- SNAPSHOT's 60 bytes, field by field at their offsets (R195, R206, R14, R15, section 10.4), taken at one instant, on a commissioned part and on an UNCOMMISSIONED one, whose reported demand is 0; the counts are 0 where no window is open, and the demand is the larger of the two channels'. Nothing changes but the link's own state. -/
def Obligations.SnapshotLayout : Prop :=
  ∀ s : State, linkReady s = true →
    s.ctu.clock.count < 2 ^ 32 → s.ace.b < 2 ^ 40 → s.ace.d < 65536 → s.ace.q < 256 →
    let demand := fun (p : Nat) (ch : Channel) => match ch.lastAt, ch.period with
      | some a, some n => min 65535 (3686400000 / (p * max n (s.now - a)))
      | _, _ => 0
    ∃ p, exec (.snapshot []) s = .next (replied { status := .ok, type := 4, payload := p } s) ∧ p.length = 60 ∧
      (slice p 0 5 : Int) = s.ace.c % 2 ^ 40 ∧ slice p 5 5 = s.ace.b ∧
      (∀ n, s.ace.em = .inUse n → n / 10000 < 65536 → slice p 10 2 = n / 10000) ∧
      ((∀ n, s.ace.em ≠ .inUse n) → slice p 10 2 = 0) ∧
      slice p 12 2 = s.ace.d ∧ slice p 14 1 = s.ace.q ∧ slice p 15 4 = s.ctu.clock.count ∧
      (s.comm = none → slice p 19 2 = 0) ∧
      (∀ k, s.comm = some k → slice p 19 2 = max (demand k.p s.miu.line) (demand k.p s.miu.ret)) ∧
      (∀ w, s.miu.window = some w →
        slice p 21 2 = min 65535 w.nL ∧ slice p 23 2 = min 65535 w.nR) ∧
      (s.miu.window = none → slice p 21 2 = 0 ∧ slice p 23 2 = 0) ∧
      slice p 25 1 = s.ssc.state.code * 16 + s.ssc.causes.mask ∧
      (∀ i : Fin 8, (slice p 26 1).testBit i = s.tmn.records[i].latched) ∧
      slice p 27 1 = s.ace.em.code * 64 + s.ctu.band.val * 16 + s.ctu.friendly.toNat * 8 +
        s.ctu.clock.valid.toNat * 4 + s.stc.health.code ∧
      (∀ i : Fin 9, (slice p 28 2).testBit i = decide (s.lkp.alerts[i] ≠ .absent)) ∧
      (∀ i : Fin 9, (slice p 30 2).testBit i = decide (s.lkp.alerts[i] = .unseen)) ∧
      (∀ i : Fin 4, slice p (32 + 4 * i.val) 4 = s.ace.reg[i] % 2 ^ 32) ∧
      slice p 48 4 = s.ace.creditApplied % 2 ^ 32 ∧ slice p 52 4 = s.ace.debtCharges % 2 ^ 32 ∧
      slice p 56 4 = s.ace.debtRecovered % 2 ^ 32

/-- READ_ALERTS replies the marks and makes every present alert seen, which releases ATTENTION (R202, R204); CLEAR_ALERTS removes those it names that are seen and no others, and one with a bit above 8 is OUT_OF_RANGE (R203, R207). -/
def Obligations.AlertRequestsMarkAndClear : Prop :=
  ∀ s : State, linkReady s = true →
    (∃ p, exec (.readAlerts []) s = .next ((replied { status := .ok, type := 10, payload := p } s).setLkp
        { (replied { status := .ok, type := 10, payload := p } s).lkp with
          alerts := s.lkp.alerts.map fun m => if m = .unseen then .seen else m }) ∧
      p.length = 4 ∧ (∀ i : Fin 9, (slice p 0 2).testBit i = decide (s.lkp.alerts[i] ≠ .absent)) ∧
      (∀ i : Fin 9, (slice p 2 2).testBit i = decide (s.lkp.alerts[i] = .unseen))) ∧
    (∀ t, exec (.readAlerts []) s = .next t → t.attentionLow = false) ∧
    (∀ a b : Byte, a.toNat ≤ 1 → ∃ t p, exec (.clearAlerts [a, b]) s = .next t ∧
      t.lkp.outbox = s.lkp.outbox ++ [{ status := .ok, type := 11, payload := p }] ∧ p.length = 4 ∧
      (∀ i : Fin 9, t.lkp.alerts[i] =
        if (a.toNat * 256 + b.toNat).testBit i ∧ s.lkp.alerts[i] = .seen then .absent else s.lkp.alerts[i]) ∧
      (∀ i : Fin 9, (slice p 0 2).testBit i = decide (t.lkp.alerts[i] ≠ .absent)) ∧
      (∀ i : Fin 9, (slice p 2 2).testBit i = decide (t.lkp.alerts[i] = .unseen)) ∧
      t.ace = s.ace ∧ t.ctu = s.ctu ∧ t.cru = s.cru ∧ t.ssc = s.ssc ∧ t.tmn = s.tmn ∧ t.stc = s.stc ∧
      t.miu = s.miu ∧ t.psv = s.psv) ∧
    (∀ a b : Byte, 1 < a.toNat → exec (.clearAlerts [a, b]) s =
      .next (replied { status := .outOfRange, type := 11, payload := [] } s))

/-- TRIM_CLOCK (R54, R55, R198): what is left of the day's allowance and of the clock's range bounds the applied amount, which the clock moves by and the day's record counts; the reply carries it with the clock after it. An advance into a quarter above the last charged one issues its tick; a retard of a clock not past that one issues none. A trim of 0, and any trim of an INVALID clock, applies 0. The model's own conventions in it: log entries 16 and 26. -/
def Obligations.TrimClockAppliesTheAllowance : Prop :=
  ∀ (s : State) (n : Nat), linkReady s = true → 0 < n → n ≤ 2 ^ 31 → s.ctu.clock.count ≤ 4294967295 →
    let day := s.ctu.clock.count / 86400
    let used := match s.ctu.trim with
      | none => (day, 0, 0)
      | some r => if r.day < day then (day, 0, 0) else (r.day, r.advance, r.retard)
    let up := min n (min (120 - used.2.1) (4294967295 - s.ctu.clock.count))
    let down := min n (min (120 - used.2.2) s.ctu.clock.count)
    let moved := fun (t : State) (count : Nat) =>
      t.ctu.clock = { s.ctu.clock with count := count } ∧
      t.ctu.band = s.ctu.active.bandAt (count / 86400) (count % 86400 / 900) ∧
      t.ctu.active = s.ctu.active ∧ t.ctu.pending = s.ctu.pending ∧ t.ace = s.ace ∧ t.cru = s.cru ∧
      t.now = s.now
    (s.ctu.clock.valid = true → used.2.1 ≤ 120 → n < 2 ^ 31 → ∃ t, exec (.trimClock (be 4 n)) s = .next t ∧
      moved t (s.ctu.clock.count + up) ∧
      t.ctu.trim = some { day := used.1, advance := used.2.1 + up, retard := used.2.2 } ∧
      t.ctu.issued = (if s.ctu.issued = none ∧ s.ace.lastQ < (s.ctu.clock.count + up) / 900
        then some (s.ace.lastQ + 1) else s.ctu.issued) ∧
      t.lkp.outbox = s.lkp.outbox ++
        [{ status := .ok, type := 6, payload := be 4 up ++ be 4 (s.ctu.clock.count + up) ++ [1#8] }]) ∧
    (s.ctu.clock.valid = true → used.2.2 ≤ 120 → ∃ t, exec (.trimClock (be 4 (2 ^ 32 - n))) s = .next t ∧
      moved t (s.ctu.clock.count - down) ∧
      t.ctu.trim = some { day := used.1, advance := used.2.1, retard := used.2.2 + down } ∧
      (s.ctu.clock.count / 900 ≤ s.ace.lastQ → t.ctu.issued = s.ctu.issued) ∧
      t.lkp.outbox = s.lkp.outbox ++
        [{ status := .ok, type := 6
           payload := beInt 4 (-(down : Int)) ++ be 4 (s.ctu.clock.count - down) ++ [1#8] }]) ∧
    (s.ctu.clock.valid = true → exec (.trimClock (be 4 0)) s = .next (replied
      { status := .ok, type := 6
        payload := [0#8, 0#8, 0#8, 0#8] ++ be 4 s.ctu.clock.count ++ [1#8] } s)) ∧
    (s.ctu.clock.valid = false → ∀ m, m ∈ [0, n, 2 ^ 32 - n] → exec (.trimClock (be 4 m)) s = .next (replied
      { status := .ok, type := 6
        payload := [0#8, 0#8, 0#8, 0#8] ++ be 4 s.ctu.clock.count ++ [0#8] } s))

/-! ### The link -/

/-- A complete frame is judged in the order of R190, whatever request it is: NOT_READY outside RUN, with power state and step (R206); BUSY while a request is in service; UNKNOWN_TYPE; BAD_LENGTH. SUBMIT's replies carry the code outcome first (R73). None of these changes anything but the link's own state. The model's own conventions in it: log entry 16. -/
def Obligations.RequestsAreJudgedInOrder : Prop :=
  ∀ (c : Instr) (type : Byte) (payload : List Byte) (s : State), requestOf c = some (type, payload) →
    payload.length ≤ 60 → s.lkp.rx.state = .hunt → s.lkp.outbox.length < 4 → storeAtRest s = true →
    let named := 1 ≤ type.toNat ∧ type.toNat ≤ 11
    let ty := if named then type.toNat else 0
    (∀ n kind, s.psv.power = .startup n kind → exec c s = .next (replied
      { status := .notReady, type := ty
        payload := (if type = 3#8 then [1#8] else []) ++ [1#8, BitVec.ofNat 8 n] } s)) ∧
    (s.psv.power = .holdup → exec c s = .next (replied
      { status := .notReady, type := ty, payload := (if type = 3#8 then [1#8] else []) ++ [3#8, 0#8] } s)) ∧
    (s.psv.power = .run → s.lkp.inService.isSome = true → exec c s = .next (replied
      { status := .busy, type := ty, payload := if type = 3#8 then [3#8] else [] } s)) ∧
    (s.psv.power = .run → s.lkp.inService = none → ¬ named → exec c s = .next (replied
      { status := .unknownType, type := 0, payload := [] } s)) ∧
    (s.psv.power = .run → s.lkp.inService = none →
      (∃ len, (type.toNat, len) ∈ [(1, 0), (2, 26), (4, 0), (5, 2), (6, 4), (7, 1), (8, 1), (9, 1), (10, 0), (11, 2)] ∧
        payload.length ≠ len) →
      exec c s = .next (replied { status := .badLength, type := ty, payload := [] } s))

/-- A frame that is discarded leaves no trace but the assembler in HUNT (R189), and so does one that a gap of 21 ticks cuts short; a reply that has gone out makes way for the next (R191). The model's own conventions in it: log entries 10 and 16. -/
def Obligations.DiscardsLeaveNoTrace : Prop :=
  ∀ (s : State) (bytes : List RxByte), s.psv.power.mainPowered = true → storeAtRest s = true →
    (s.lkp.rx.state = .hunt → (Instr.frameDiscard bytes).wf = true →
      exec (.frameDiscard bytes) s =
        .next (s.setLkp { s.lkp with rx := { state := .hunt, lastByte := s.now } })) ∧
    (s.lkp.rx.state = .hunt → bytes ≠ [] → (Instr.frameGapTimeout bytes).wf = true →
      exec (.frameGapTimeout bytes) s =
        .next ((elapse 21 s).setLkp { s.lkp with rx := { state := .hunt, lastByte := s.now } })) ∧
    (s.lkp.rx.state ≠ .hunt → exec (.frameGapTimeout []) s =
      .next ((elapse (s.lkp.rx.lastByte + 21 - s.now) s).setLkp
        { s.lkp with rx := { s.lkp.rx with state := .hunt } })) ∧
    (∀ r rest, s.lkp.outbox = r :: rest →
      s.txFrame = some (frame (BitVec.ofNat 8 (r.status.code * 16 + r.type)) r.payload) ∧
      exec .replySent s = .next (s.setLkp { s.lkp with outbox := rest }))

/-! ### The supply -/

/-- The steps of a drive run in RUN (R115 to R119, R107, R111): the reservoir step ends when the reservoir is ready, a fall of RESERVOIR_READY ends no step and is what the next attempt finds, the coil is driven in the pulse step alone, LOAD_SENSE is sampled once at the settle's end. A run that verifies, made from a STUCK state or not, takes the supply to OPEN or CLOSED with its event, where the set as it has become is judged at once: OPEN goes on to ARMED or CLOSING with an empty set, CLOSED to OPENING, WARNING or DEFERRED with a cause; from a STUCK state SWITCH_FAULT falls. A failed attempt is followed by the next; a third failure leaves STUCK_CLOSED or STUCK_OPEN, with SUPPLY_STUCK and SWITCH_FAULT, and that of a retry run leaves its STUCK state as it is and starts the retry timer of STUCK_CLOSED afresh. The model's own conventions in it: log entries 10 and 15. -/
def Obligations.DriveRunTakesItsSteps : Prop :=
  ∀ (s : State) (k : Commission) (r : DriveRun), s.psv.power = .run → s.comm = some k → storeAtRest s = true →
    s.ssc.run = some r → r.abandoned = false →
    let next := fun (n : Nat) (why : FailReason) (ready : Bool) =>
      some { r with attempt := n, step := if ready then DriveStep.pulse else .reservoir, ticks := 0, lastFail := some why }
    let attempt := fun dir : Direction => some
      { dir := dir, attempt := 1, step := if s.pins.reservoirReady then .pulse else .reservoir, ticks := 0
        lastFail := none, abandoned := false : DriveRun }
    let moving := s.ssc.state = if r.dir = .toOpen then .opening else .closing
    let retrying := s.ssc.state = if r.dir = .toOpen then .stuckClosed else .stuckOpen
    let failsAgain := fun x : Ssc => { x with
      run := none, stuckRetry := if r.dir = .toOpen then some 0 else x.stuckRetry }
    let ended := fun (u t : State) (event : EventKind) =>
      t.now = u.now ∧ t.tmn.history = ({ time := u.stamp, kind := event } :: s.tmn.history).take 32 ∧
      t.ssc.causes = s.ssc.causes ∧ unseen .supply t = true ∧ t.miu.view = some t.ssc.state ∧
      t.ace = s.ace ∧ t.ctu = u.ctu ∧ t.cru = s.cru ∧
      (∀ i : Fin 8, i ≠ 5 → i ≠ 6 → t.tmn.records[i] = s.tmn.records[i]) ∧
      (s.miu.conducting = false → s.ssc.loadSide = false → t.tmn.records[5] = s.tmn.records[5]) ∧
      (moving → t.tmn.records[6] = s.tmn.records[6]) ∧
      (retrying → t.tmn.views.switchFault = false ∧
        (s.tmn.views.switchFault = true → s.tmn.records[6].active = true → t.tmn.records[6] = { s.tmn.records[6] with active := false, side := none }))
    let stuck := fun (u t : State) =>
      t.ssc.state = (if r.dir = .toOpen then .stuckClosed else .stuckOpen) ∧ t.ssc.run = none ∧
      t.ssc.stuckRetry = (if r.dir = .toOpen then some 0 else none) ∧
      t.tmn.views.switchFault = true ∧ unseen .supply t = true ∧
      (∃ e, t.tmn.history = ({ time := u.stamp, kind := .supplyStuck r.dir } :: e).take 32) ∧
      t.ace = s.ace ∧ t.ctu = u.ctu ∧ t.cru = s.cru
    exec (.reservoirReadyRise false) s = .next (s.setPins { s.pins with reservoirReady := false }) ∧
    (r.step = .reservoir →
      s.openDrive = false ∧ s.closeDrive = false ∧
      exec .reservoirReadyRise s = .next ((s.setPins { s.pins with reservoirReady := true }).setSsc
        { s.ssc with run := some { r with step := .pulse, ticks := 0 } }) ∧
      (let u := elapse (30720 - r.ticks) s
       let low := u.setPins { s.pins with reservoirReady := false }
       (r.attempt < 3 → exec .reservoirTimeout s = .next (low.setSsc
          { u.ssc with run := next (r.attempt + 1) .reservoir false })) ∧
       (r.attempt = 3 → moving → ∃ t, exec .reservoirTimeout s = .next t ∧ stuck u t) ∧
       (r.attempt = 3 → retrying → exec .reservoirTimeout s = .next (low.setSsc (failsAgain u.ssc))))) ∧
    (r.step = .pulse → ∀ ready, let u := elapse (82 - r.ticks) s
      (s.openDrive = true ↔ r.dir = .toOpen) ∧ (s.closeDrive = true ↔ r.dir = .toClose) ∧
      exec (.drivePulseEnd ready) s = .next ((u.setPins { s.pins with reservoirReady := ready }).setSsc
        { u.ssc with run := some { r with step := .settle, ticks := 0 } })) ∧
    (r.step = .settle → let u := elapse (256 - r.ticks) s
      s.openDrive = false ∧ s.closeDrive = false ∧
      (r.attempt < 3 → s.pins.loadSense = decide (r.dir = .toOpen) →
        exec .settleEnd s = .next (u.setSsc
          { u.ssc with run := next (r.attempt + 1) .verify s.pins.reservoirReady })) ∧
      (r.attempt = 3 → s.pins.loadSense = decide (r.dir = .toOpen) → moving →
        ∃ t, exec .settleEnd s = .next t ∧ stuck u t) ∧
      (r.attempt = 3 → s.pins.loadSense = decide (r.dir = .toOpen) → retrying →
        exec .settleEnd s = .next (u.setSsc (failsAgain u.ssc))) ∧
      (r.dir = .toOpen → s.pins.loadSense = false → (moving ∨ retrying) → conductingSettled s = true →
        ∃ t, exec .settleEnd s = .next t ∧ ended u t (.supplyOpened s.ssc.causes) ∧
          (if s.ssc.causes.isEmpty = false then t.ssc.state = .opened ∧ t.ssc.run = none
            else if s.ssc.waiver = true ∨ s.ssc.emptying = some .remote then
              t.ssc.state = .closing ∧ t.ssc.run = attempt .toClose ∧ t.ssc.waiver = false
            else t.ssc.state = .armed ∧ t.ssc.run = none)) ∧
      (r.dir = .toClose → s.pins.loadSense = true → (moving ∨ retrying) → conductingSettled s = true →
        ∃ t, exec .settleEnd s = .next t ∧ ended u t .supplyClosed ∧
          (if s.ssc.causes.beyondCredit = true then
              t.ssc.state = .opening ∧ t.ssc.run = attempt .toOpen ∧ t.ssc.waiver = false
            else if s.ssc.causes.credit = true then
              t.ssc.run = none ∧
                if s.ssc.friendly = true then t.ssc.state = .deferred ∧ t.ssc.warn = none ∧ t.warnOut = false
                else t.ssc.state = .warning ∧ t.ssc.warn = some 0 ∧ t.warnOut = true
            else t.ssc.state = .closed ∧ t.ssc.run = none)))

/-- SSC's timers in RUN (R108, R118, R120, R123, R124): the warning's end opens the supply; the stuck retry tries again with a cause present and waits again without one; the restore timer removes OVERLOAD unless three trips stand against the day; the trip day ends by its timer while the clock is INVALID; five seconds of LOAD_SENSE change the load side in OPEN, where a cause that stands, CREDIT alone included, keeps the supply. The model's own conventions in it: log entries 10 and 15. -/
def Obligations.SupplyTimersExpire : Prop :=
  ∀ s : State, s.psv.power = .run → storeAtRest s = true →
    let attempt := fun dir : Direction =>
      { dir := dir, attempt := 1, step := if s.pins.reservoirReady then .pulse else .reservoir, ticks := 0
        lastFail := none, abandoned := false : DriveRun }
    (∀ n, s.ssc.state = .warning → s.ssc.warn = some n → conductingSettled s = true → let u := elapse (614400 - n) s
      ∃ t, exec .warningTimeout s = .next t ∧ t.now = u.now ∧ t.ssc.state = .opening ∧
        t.ssc.run = some (attempt .toOpen) ∧ t.ssc.warn = none ∧ t.warnOut = false ∧ t.ssc.waiver = false ∧
        t.ssc.causes = s.ssc.causes ∧ t.ace = s.ace ∧ t.ctu = u.ctu ∧ t.cru = s.cru ∧ t.stc = s.stc) ∧
    (∀ n, s.ssc.stuckRetry = some n → let u := elapse (921600 - n) s
      (s.ssc.causes.isEmpty = false → exec .stuckRetryExpiry s = .next (u.setSsc
        { u.ssc with stuckRetry := none, run := some (attempt .toOpen) })) ∧
      (s.ssc.causes.isEmpty = true → s.comm.isSome = true →
        exec .stuckRetryExpiry s = .next (u.setSsc { u.ssc with stuckRetry := some 0 }))) ∧
    (∀ n, s.ssc.restore = some n → let u := elapse (61440 - n) s
      (s.ssc.trips = 3 → exec .restoreTimeout s = .next (u.setSsc { u.ssc with restore := none })) ∧
      (s.ssc.trips < 3 → ∃ t, exec .restoreTimeout s = .next t ∧ t.ssc.restore = none ∧
        t.ssc.causes = { s.ssc.causes with overload := false } ∧ t.ssc.trips = s.ssc.trips ∧
        (s.ssc.state = .opened → s.ssc.waiver = false →
          s.ssc.causes = { credit := false, tamper := false, overload := true, remote := false } →
          t.ssc.state = .armed) ∧
        t.ace = s.ace ∧ t.ctu = u.ctu ∧ t.cru = s.cru)) ∧
    (∀ n, s.ssc.tripDay = some n → let u := elapse (88473600 - n) s
      (s.ctu.clock.valid = true → exec .tripDayExpiry s = .next (u.setSsc { u.ssc with tripDay := none })) ∧
      (s.ctu.clock.valid = false → ∃ t, exec .tripDayExpiry s = .next t ∧ t.ssc.tripDay = none ∧ t.ssc.trips = 0 ∧
        (s.ssc.restore = none → t.ssc.causes = { s.ssc.causes with overload := false }) ∧
        (s.ssc.restore.isSome = true → t.ssc.causes = s.ssc.causes ∧ t.ssc.state = s.ssc.state) ∧
        t.ace = s.ace ∧ t.cru = s.cru)) ∧
    (s.ssc.state = .opened → s.pins.loadSense = !s.ssc.loadSide → let u := elapse (5120 - s.ssc.loadCount) s
      ∃ t, exec .loadSideChange s = .next t ∧ t.now = u.now ∧ t.ace = s.ace ∧ t.ctu = u.ctu ∧ t.cru = s.cru ∧
        (heldOpen s = true → t.ssc.loadSide = s.pins.loadSense ∧ t.ssc.loadCount = 0 ∧
          t.ssc.state = .opened ∧ t.tmn.views.loadSide = s.pins.loadSense ∧
          (s.pins.loadSense = false → s.tmn.views.loadSide = true → s.tmn.views.pulseSide = false →
            s.tmn.records[5].active = true → t.tmn.records[5].active = false) ∧
          (s.pins.loadSense = true → s.tmn.views.loadSide = false → s.tmn.records[5].active = false →
            s.comm.isSome = true → t.tmn.records[5].active = true ∧
              t.tmn.history = ({ time := u.stamp, kind := .tamperOn .conductingOpen none } :: s.tmn.history).take 32)))

/-- A press of ACCEPT in RUN (R121, R122, R41, R113, R119): ARMED closes; offered emergency credit is taken first: it keeps the supply on in CLOSED, WARNING and DEFERRED, closes it in ARMED, and in OPEN for want of credit alone the same press closes it too, while another cause keeps it OPEN; while a drive run goes on the press does nothing but disarm the detector. The clause of CLOSED is the model's choice: there R107 says that a press does nothing and R122 that a press in any state takes what is offered; it follows R122, log entry 34. The model's own conventions in it: log entries 4 and 34. -/
def Obligations.AcceptPressActs : Prop :=
  ∀ s : State, s.psv.power = .run → s.ssc.accept.armed = true → storeAtRest s = true →
    let u := elapse (1024 - s.ssc.accept.since) s
    let pressed := { armed := false, count := 0, since := 0 : Detector }
    let attempt : DriveRun :=
      { dir := .toClose, attempt := 1, step := if s.pins.reservoirReady then .pulse else .reservoir, ticks := 0
        lastFail := none, abandoned := false }
    ((s.ssc.run.isSome = true ∨ s.ssc.state = .opening ∨ s.ssc.state = .closing) →
      exec .acceptPress s = .next ((u.setPins { s.pins with accept := true }).setSsc
        { u.ssc with accept := pressed })) ∧
    (s.ssc.run = none → s.ssc.state = .armed → s.ace.em ≠ .offered → conductingSettled s = true →
      ∃ t, exec .acceptPress s = .next t ∧ t.now = u.now ∧ t.ssc.state = .closing ∧ t.ssc.run = some attempt ∧
        t.ssc.waiver = false ∧ t.ssc.accept = pressed ∧ t.ssc.causes = s.ssc.causes ∧ t.ace = s.ace ∧
        t.ctu = u.ctu ∧ t.cru = s.cru ∧ t.tmn.history = s.tmn.history) ∧
    (s.ssc.run = none → s.ssc.state = .stuckOpen → s.ace.em ≠ .offered → s.ssc.causes.isEmpty = true →
      ∃ t, exec .acceptPress s = .next t ∧ t.ssc.state = .stuckOpen ∧ t.ssc.run = some attempt ∧ t.ace = s.ace) ∧
    (s.ace.em = .offered → s.ssc.run = none → s.ssc.state = .opened → s.ssc.waiver = false →
      s.ssc.causes = { credit := true, tamper := false, overload := false, remote := false } →
      -(s.ace.e : Int) < s.ace.c →
      ∃ t, exec .acceptPress s = .next t ∧ t.ace = { s.ace with em := .inUse s.ace.e } ∧
        t.ssc.causes.isEmpty = true ∧ t.ssc.emInUse = true ∧ t.ssc.state = .closing ∧
        t.ssc.run = some attempt ∧ t.ctu = u.ctu ∧ t.cru = s.cru) ∧
    (s.ace.em = .offered → s.ssc.run = none → -(s.ace.e : Int) < s.ace.c →
      let taken := fun t : State => t.ace = { s.ace with em := .inUse s.ace.e } ∧ t.ssc.emInUse = true ∧
        t.ssc.causes = { s.ssc.causes with credit := false } ∧ t.ssc.accept = pressed ∧ t.ctu = u.ctu ∧
        t.cru = s.cru ∧ t.now = u.now ∧ t.tmn.history = s.tmn.history
      (s.ssc.causes = { credit := true, tamper := false, overload := false, remote := false } →
        (s.ssc.state = .warning ∨ s.ssc.state = .deferred) → conductingSettled s = true →
        ∃ t, exec .acceptPress s = .next t ∧ taken t ∧ t.ssc.state = .closed ∧ t.ssc.run = none ∧
          t.ssc.warn = none ∧ t.warnOut = false) ∧
      (s.ssc.causes.isEmpty = true → s.ssc.state = .closed →
        ∃ t, exec .acceptPress s = .next t ∧ taken t ∧ t.ssc.state = .closed ∧ t.ssc.run = none) ∧
      (s.ssc.causes.isEmpty = true → s.ssc.state = .armed → conductingSettled s = true →
        ∃ t, exec .acceptPress s = .next t ∧ taken t ∧ t.ssc.state = .closing ∧ t.ssc.run = some attempt) ∧
      (s.ssc.causes.beyondCredit = true → s.ssc.state = .opened →
        ∃ t, exec .acceptPress s = .next t ∧ taken t ∧ t.ssc.state = .opened ∧ t.ssc.run = none))

/-! ### Inputs -/

/-- The samples the part takes (R133, R136, R137, R146, R177, R120, R121, R175, R173, R184): a changed tamper input starts its one-shot from 0, whose end, in RUN or BATTERY, takes the level as it then is: a rise is an occurrence, which in RUN asks for an urgent checkpoint and in BATTERY sets the battery mark, and a fall of COVER alone is an event; a LOAD_SENSE sample of the other kind starts the count in OPEN; ACCEPT and RESET arm released; MAINS_OK counts from 0. The model's own conventions in it: log entries 4, 7, 10 and 15. -/
def Obligations.InputsAreSampled : Prop :=
  ∀ s : State, storeAtRest s = true →
    (∀ high, s.psv.power ≠ .off → s.psv.bramValid = true →
      (s.tmn.cover.last ≠ high → exec (.switchEdge .cover high) s =
        .next ((s.setPins { s.pins with cover := high }).setTmn
          { s.tmn with cover := { s.tmn.cover with last := high, shot := some 0 } })) ∧
      (s.tmn.terminal.last ≠ high → exec (.switchEdge .terminal high) s =
        .next ((s.setPins { s.pins with terminal := high }).setTmn
          { s.tmn with terminal := { s.tmn.terminal with last := high, shot := some 0 } })) ∧
      (s.tmn.magnet.last ≠ high → exec (.switchEdge .magnet high) s =
        .next ((s.setPins { s.pins with magnet := high }).setTmn
          { s.tmn with magnet := { s.tmn.magnet with last := high, shot := some 0 } }))) ∧
    (∀ sw n, (s.tmn.debounce sw).shot = some n → s.psv.bramValid = true →
      (s.psv.power = .run ∨ s.psv.power = .battery) →
      let i := (switchKind sw).idx
      let d := s.tmn.debounce sw
      let r := s.tmn.records[i]
      let u := elapse ((match sw with
        | .cover => 512
        | .terminal => 512
        | .magnet => 2048) - n) s
      (pinLevel s.pins sw = d.level → exec (.debounceExpiry sw) s =
        .next (u.setTmn (u.tmn.setDebounce sw { d with shot := none }))) ∧
      (pinLevel s.pins sw = true → d.level = false → s.comm.isSome = true → conductingSettled s = true →
        ∃ t, exec (.debounceExpiry sw) s = .next t ∧ t.now = u.now ∧
          t.tmn.debounce sw = { last := d.last, shot := none, level := true } ∧ t.tmn.records[i].active = true ∧
          t.tmn.records[i].count = min 65535 (r.count + 1) ∧ t.tmn.records[i].last = some u.stamp ∧
          t.tmn.records[i].first = (if r.first = none then some u.stamp else r.first) ∧
          t.tmn.records[i].policy = r.policy ∧
          t.tmn.records[i].latched = (r.latched || decide (r.policy ≠ .record)) ∧
          t.tmn.history =
            ({ time := u.stamp, kind := .tamperOn (switchKind sw) none } :: s.tmn.history).take 32 ∧
          (∀ j : Fin 8, j ≠ i → j ≠ 5 → t.tmn.records[j] = s.tmn.records[j]) ∧
          t.ace = s.ace ∧ t.ctu = u.ctu ∧ t.cru = s.cru ∧
          (s.psv.power = .run → t.tmn.mark = s.tmn.mark ∧ checkpointAsked true s t ∧
            (r.policy ≠ .record → unseen .tamper t = true ∧ t.tamperLed = true) ∧
            (r.policy = .openSupply → t.ssc.causes.tamper = true)) ∧
          (s.psv.power = .battery → t.tmn.mark = true ∧ t.stc = s.stc ∧ t.lkp = s.lkp ∧ t.ssc = u.ssc ∧
            t.tamperLed = false)) ∧
      (pinLevel s.pins sw = false → d.level = true → s.comm.isSome = true →
        exec (.debounceExpiry sw) s = .next (u.setTmn { u.tmn.setDebounce sw { last := d.last, shot := none, level := false } with
          records := s.tmn.records.set i { r with active := false, side := none }
          history := if sw = .cover then ({ time := u.stamp, kind := .coverClosed } :: s.tmn.history).take 32
            else s.tmn.history }))) ∧
    (∀ present, present ≠ s.pins.loadSense →
      (s.psv.power = .run → s.ssc.state = .opened → exec (.loadSenseOtherSample present) s =
        .next ((s.setPins { s.pins with loadSense := present }).setSsc
          { s.ssc with loadCount := if present = s.ssc.loadSide then 0 else 1 })) ∧
      (s.ssc.state ≠ .opened → exec (.loadSenseOtherSample present) s =
        .next (s.setPins { s.pins with loadSense := present }))) ∧
    (s.psv.power = .run → exec .acceptReleased s =
      .next ((s.setPins { s.pins with accept := false }).setSsc
        { s.ssc with accept := { armed := true, count := 0, since := 0 } })) ∧
    (s.psv.power ≠ .off → exec .resetReleased s =
      .next ((s.setPins { s.pins with reset := false }).setPsv
        { s.psv with reset := { armed := true, count := 0, since := 0 } })) ∧
    (s.psv.power = .battery ∨ s.psv.power = .holdup →
      exec (.mainsOkChangeOutsideRun true) s = .next (s.setPins { s.pins with mainsOk := true }) ∧
      exec (.mainsOkChangeOutsideRun false) s =
        .next ((s.setPins { s.pins with mainsOk := false }).setPsv { s.psv with stable := 0 }))

/-! ### Replay at a start -/

/-- A start with entries to replay (R101, R164, R169, R70, R71, R148, R44): the run of numbers just above the folded one, up to the first missing one, is replayed in order over the chosen checkpoint and is unfolded, and no entry beyond the gap has an effect, though the next journal number passes them all. A cold start ends with exactly the account and the tariffs so made; a warm one goes on to its catch-up, and of the policies and the clock it takes up what entries above the applied journal number set and else keeps battery RAM's. No reply is sent. The model's own conventions in it: log entries 10, 23 and 25. -/
def Obligations.StartReplaysTheJournal : Prop :=
  ∀ (s : State) (i : Nat) (c : Checkpoint) (es : List JournalEntry) (cold : Bool),
    (s.psv.power = .startup 1 (if cold then .cold else .warm) ∧ s.miu.line.held = 0 ∨
      s.psv.power = .battery ∧ s.psv.bramValid = !cold) →
    s.pins.mainsOk = true → s.stc.write = none → s.stc.chosen = some (i, c) → es.length ≤ 8 →
    (∀ j, j ≤ es.length → s.stc.entryNumbered (c.folded + 1 + j) = es[j]?) →
    let ace := es.foldl Ace.replayed c.ace
    let cru := es.foldl Cru.replayed { Cru.factory with
      key := c.key, staged := c.staged, h := c.h, redeemed := c.redeemed }
    let ctu := es.foldl Ctu.replayed { Ctu.factory with active := c.active, pending := c.pendingTariff }
    let action := fun e : JournalEntry => parseAction e.cls e.payload
    let live := fun e : JournalEntry => cold = true ∨ s.psv.applied < e.number
    ∃ t, exec .mainsStable s = .next t ∧ t.comm = some c.comm ∧ t.stc.unfolded = es.map (·.number) ∧
      t.stc.journal = s.stc.journal ∧
      t.cru.key = cru.key ∧ t.cru.staged = cru.staged ∧ t.cru.h = cru.h ∧ t.cru.redeemed = cru.redeemed ∧
      (es ≠ [] → t.cru.run = none) ∧ t.cru.lockEnd = c.lockLeft.map (t.now + ·) ∧ t.cru.inFlight = none ∧
      (s.psv.power ≠ .battery → t.lkp.outbox = s.lkp.outbox) ∧ (s.psv.power = .battery → t.lkp.outbox = []) ∧
      (∀ m, m < 4294967295 → c.folded ≤ m →
        (∀ x, (Slot.holding x) ∈ s.stc.journal.toList → x.number ≤ m) →
        (m = c.folded ∨ ∃ x, (Slot.holding x) ∈ s.stc.journal.toList ∧ x.number = m) →
        t.stc.nextJournal = m + 1 ∧ t.psv.applied = m) ∧
      t.ace.creditApplied = ace.creditApplied ∧ t.ace.debtRecovered = ace.debtRecovered ∧
      t.ace.cmax = ace.cmax ∧ t.ace.e = ace.e ∧ t.ace.lc = ace.lc ∧ t.ace.share = ace.share ∧
      t.ace.reg = c.ace.reg ∧ t.ace.d = c.ace.d ∧
      t.ace.lastQ = (if t.ctu.clock.valid then max ace.lastQ (t.ctu.clock.count / 900) else ace.lastQ) ∧
      (cold = true → t.ace = ace.judgedOffer ∧ t.ctu.active = ctu.active ∧ t.ctu.pending = ctu.pending ∧
        t.ctu.clock = { count := 0, valid := false, sub := 0 }) ∧
      ((∀ tf g, ctu.pending ≠ .scheduled tf g) → t.ctu.active = ctu.active ∧ t.ctu.pending = ctu.pending) ∧
      t.miu.wLim = es.foldl (fun w e => match action e with
        | some (.limit 3 v) => v
        | _ => w) c.wLim ∧
      t.ssc.causes.remote = es.foldl (fun r e => match action e with
        | some (.supply release) => !release
        | _ => r) c.causes.remote ∧
      (∀ k : TamperKind,
        ((∀ e ∈ es, live e → ∀ p, action e ≠ some (.policy k p)) →
          t.tmn.records[k.idx].policy = (if cold then c.records else s.tmn.records)[k.idx].policy) ∧
        (∀ before e after p, es = before ++ e :: after → live e → action e = some (.policy k p) →
          (∀ x ∈ after, ∀ q, action x ≠ some (.policy k q)) → t.tmn.records[k.idx].policy = p)) ∧
      (cold = false →
        ((∀ e ∈ es, live e → ∀ n, action e ≠ some (.clock n)) →
          t.ctu.clock.valid = s.ctu.clock.valid ∧ t.ctu.clock.count = s.ctu.clock.count) ∧
        (∀ e r n, e ∈ es → live e → action e = some (.clock n) → e.time = .secs r →
          (∀ x ∈ es, live x → (∃ m, action x = some (.clock m)) → x = e) →
          s.ctu.clock.valid = true → n + (s.ctu.clock.count - r) ≤ 4294967295 →
          t.ctu.clock.valid = true ∧ t.ctu.clock.count = n + (s.ctu.clock.count - r)))

end
end

