-- ==== Sys2Proof/Laws/State.lean ====
section
/-! SUPPORT. One lemma per field per update of the state, so that no later proof unfolds a record update. -/

namespace Sys2Proof.Machine

/-! ### `State.setPins` -/

@[simp] theorem State.setPins_pins (s : State) (x : Pins) : (s.setPins x).pins = x := rfl
@[simp] theorem State.setPins_now (s : State) (x : Pins) : (s.setPins x).now = s.now := rfl
@[simp] theorem State.setPins_comm (s : State) (x : Pins) : (s.setPins x).comm = s.comm := rfl
@[simp] theorem State.setPins_psv (s : State) (x : Pins) : (s.setPins x).psv = s.psv := rfl
@[simp] theorem State.setPins_miu (s : State) (x : Pins) : (s.setPins x).miu = s.miu := rfl
@[simp] theorem State.setPins_ace (s : State) (x : Pins) : (s.setPins x).ace = s.ace := rfl
@[simp] theorem State.setPins_ctu (s : State) (x : Pins) : (s.setPins x).ctu = s.ctu := rfl
@[simp] theorem State.setPins_cru (s : State) (x : Pins) : (s.setPins x).cru = s.cru := rfl
@[simp] theorem State.setPins_ssc (s : State) (x : Pins) : (s.setPins x).ssc = s.ssc := rfl
@[simp] theorem State.setPins_tmn (s : State) (x : Pins) : (s.setPins x).tmn = s.tmn := rfl
@[simp] theorem State.setPins_stc (s : State) (x : Pins) : (s.setPins x).stc = s.stc := rfl
@[simp] theorem State.setPins_lkp (s : State) (x : Pins) : (s.setPins x).lkp = s.lkp := rfl
@[simp] theorem State.setPins_pending (s : State) (x : Pins) : (s.setPins x).pending = s.pending := rfl

/-! ### `State.setNow` -/

@[simp] theorem State.setNow_pins (s : State) (x : Nat) : (s.setNow x).pins = s.pins := rfl
@[simp] theorem State.setNow_now (s : State) (x : Nat) : (s.setNow x).now = x := rfl
@[simp] theorem State.setNow_comm (s : State) (x : Nat) : (s.setNow x).comm = s.comm := rfl
@[simp] theorem State.setNow_psv (s : State) (x : Nat) : (s.setNow x).psv = s.psv := rfl
@[simp] theorem State.setNow_miu (s : State) (x : Nat) : (s.setNow x).miu = s.miu := rfl
@[simp] theorem State.setNow_ace (s : State) (x : Nat) : (s.setNow x).ace = s.ace := rfl
@[simp] theorem State.setNow_ctu (s : State) (x : Nat) : (s.setNow x).ctu = s.ctu := rfl
@[simp] theorem State.setNow_cru (s : State) (x : Nat) : (s.setNow x).cru = s.cru := rfl
@[simp] theorem State.setNow_ssc (s : State) (x : Nat) : (s.setNow x).ssc = s.ssc := rfl
@[simp] theorem State.setNow_tmn (s : State) (x : Nat) : (s.setNow x).tmn = s.tmn := rfl
@[simp] theorem State.setNow_stc (s : State) (x : Nat) : (s.setNow x).stc = s.stc := rfl
@[simp] theorem State.setNow_lkp (s : State) (x : Nat) : (s.setNow x).lkp = s.lkp := rfl
@[simp] theorem State.setNow_pending (s : State) (x : Nat) : (s.setNow x).pending = s.pending := rfl

/-! ### `State.setComm` -/

@[simp] theorem State.setComm_pins (s : State) (x : Option Commission) : (s.setComm x).pins = s.pins := rfl
@[simp] theorem State.setComm_now (s : State) (x : Option Commission) : (s.setComm x).now = s.now := rfl
@[simp] theorem State.setComm_comm (s : State) (x : Option Commission) : (s.setComm x).comm = x := rfl
@[simp] theorem State.setComm_psv (s : State) (x : Option Commission) : (s.setComm x).psv = s.psv := rfl
@[simp] theorem State.setComm_miu (s : State) (x : Option Commission) : (s.setComm x).miu = s.miu := rfl
@[simp] theorem State.setComm_ace (s : State) (x : Option Commission) : (s.setComm x).ace = s.ace := rfl
@[simp] theorem State.setComm_ctu (s : State) (x : Option Commission) : (s.setComm x).ctu = s.ctu := rfl
@[simp] theorem State.setComm_cru (s : State) (x : Option Commission) : (s.setComm x).cru = s.cru := rfl
@[simp] theorem State.setComm_ssc (s : State) (x : Option Commission) : (s.setComm x).ssc = s.ssc := rfl
@[simp] theorem State.setComm_tmn (s : State) (x : Option Commission) : (s.setComm x).tmn = s.tmn := rfl
@[simp] theorem State.setComm_stc (s : State) (x : Option Commission) : (s.setComm x).stc = s.stc := rfl
@[simp] theorem State.setComm_lkp (s : State) (x : Option Commission) : (s.setComm x).lkp = s.lkp := rfl
@[simp] theorem State.setComm_pending (s : State) (x : Option Commission) : (s.setComm x).pending = s.pending := rfl

/-! ### `State.setPsv` -/

@[simp] theorem State.setPsv_pins (s : State) (x : Psv) : (s.setPsv x).pins = s.pins := rfl
@[simp] theorem State.setPsv_now (s : State) (x : Psv) : (s.setPsv x).now = s.now := rfl
@[simp] theorem State.setPsv_comm (s : State) (x : Psv) : (s.setPsv x).comm = s.comm := rfl
@[simp] theorem State.setPsv_psv (s : State) (x : Psv) : (s.setPsv x).psv = x := rfl
@[simp] theorem State.setPsv_miu (s : State) (x : Psv) : (s.setPsv x).miu = s.miu := rfl
@[simp] theorem State.setPsv_ace (s : State) (x : Psv) : (s.setPsv x).ace = s.ace := rfl
@[simp] theorem State.setPsv_ctu (s : State) (x : Psv) : (s.setPsv x).ctu = s.ctu := rfl
@[simp] theorem State.setPsv_cru (s : State) (x : Psv) : (s.setPsv x).cru = s.cru := rfl
@[simp] theorem State.setPsv_ssc (s : State) (x : Psv) : (s.setPsv x).ssc = s.ssc := rfl
@[simp] theorem State.setPsv_tmn (s : State) (x : Psv) : (s.setPsv x).tmn = s.tmn := rfl
@[simp] theorem State.setPsv_stc (s : State) (x : Psv) : (s.setPsv x).stc = s.stc := rfl
@[simp] theorem State.setPsv_lkp (s : State) (x : Psv) : (s.setPsv x).lkp = s.lkp := rfl
@[simp] theorem State.setPsv_pending (s : State) (x : Psv) : (s.setPsv x).pending = s.pending := rfl

/-! ### `State.setMiu` -/

@[simp] theorem State.setMiu_pins (s : State) (x : Miu) : (s.setMiu x).pins = s.pins := rfl
@[simp] theorem State.setMiu_now (s : State) (x : Miu) : (s.setMiu x).now = s.now := rfl
@[simp] theorem State.setMiu_comm (s : State) (x : Miu) : (s.setMiu x).comm = s.comm := rfl
@[simp] theorem State.setMiu_psv (s : State) (x : Miu) : (s.setMiu x).psv = s.psv := rfl
@[simp] theorem State.setMiu_miu (s : State) (x : Miu) : (s.setMiu x).miu = x := rfl
@[simp] theorem State.setMiu_ace (s : State) (x : Miu) : (s.setMiu x).ace = s.ace := rfl
@[simp] theorem State.setMiu_ctu (s : State) (x : Miu) : (s.setMiu x).ctu = s.ctu := rfl
@[simp] theorem State.setMiu_cru (s : State) (x : Miu) : (s.setMiu x).cru = s.cru := rfl
@[simp] theorem State.setMiu_ssc (s : State) (x : Miu) : (s.setMiu x).ssc = s.ssc := rfl
@[simp] theorem State.setMiu_tmn (s : State) (x : Miu) : (s.setMiu x).tmn = s.tmn := rfl
@[simp] theorem State.setMiu_stc (s : State) (x : Miu) : (s.setMiu x).stc = s.stc := rfl
@[simp] theorem State.setMiu_lkp (s : State) (x : Miu) : (s.setMiu x).lkp = s.lkp := rfl
@[simp] theorem State.setMiu_pending (s : State) (x : Miu) : (s.setMiu x).pending = s.pending := rfl

/-! ### `State.setAce` -/

@[simp] theorem State.setAce_pins (s : State) (x : Ace) : (s.setAce x).pins = s.pins := rfl
@[simp] theorem State.setAce_now (s : State) (x : Ace) : (s.setAce x).now = s.now := rfl
@[simp] theorem State.setAce_comm (s : State) (x : Ace) : (s.setAce x).comm = s.comm := rfl
@[simp] theorem State.setAce_psv (s : State) (x : Ace) : (s.setAce x).psv = s.psv := rfl
@[simp] theorem State.setAce_miu (s : State) (x : Ace) : (s.setAce x).miu = s.miu := rfl
@[simp] theorem State.setAce_ace (s : State) (x : Ace) : (s.setAce x).ace = x := rfl
@[simp] theorem State.setAce_ctu (s : State) (x : Ace) : (s.setAce x).ctu = s.ctu := rfl
@[simp] theorem State.setAce_cru (s : State) (x : Ace) : (s.setAce x).cru = s.cru := rfl
@[simp] theorem State.setAce_ssc (s : State) (x : Ace) : (s.setAce x).ssc = s.ssc := rfl
@[simp] theorem State.setAce_tmn (s : State) (x : Ace) : (s.setAce x).tmn = s.tmn := rfl
@[simp] theorem State.setAce_stc (s : State) (x : Ace) : (s.setAce x).stc = s.stc := rfl
@[simp] theorem State.setAce_lkp (s : State) (x : Ace) : (s.setAce x).lkp = s.lkp := rfl
@[simp] theorem State.setAce_pending (s : State) (x : Ace) : (s.setAce x).pending = s.pending := rfl

/-! ### `State.setCtu` -/

@[simp] theorem State.setCtu_pins (s : State) (x : Ctu) : (s.setCtu x).pins = s.pins := rfl
@[simp] theorem State.setCtu_now (s : State) (x : Ctu) : (s.setCtu x).now = s.now := rfl
@[simp] theorem State.setCtu_comm (s : State) (x : Ctu) : (s.setCtu x).comm = s.comm := rfl
@[simp] theorem State.setCtu_psv (s : State) (x : Ctu) : (s.setCtu x).psv = s.psv := rfl
@[simp] theorem State.setCtu_miu (s : State) (x : Ctu) : (s.setCtu x).miu = s.miu := rfl
@[simp] theorem State.setCtu_ace (s : State) (x : Ctu) : (s.setCtu x).ace = s.ace := rfl
@[simp] theorem State.setCtu_ctu (s : State) (x : Ctu) : (s.setCtu x).ctu = x := rfl
@[simp] theorem State.setCtu_cru (s : State) (x : Ctu) : (s.setCtu x).cru = s.cru := rfl
@[simp] theorem State.setCtu_ssc (s : State) (x : Ctu) : (s.setCtu x).ssc = s.ssc := rfl
@[simp] theorem State.setCtu_tmn (s : State) (x : Ctu) : (s.setCtu x).tmn = s.tmn := rfl
@[simp] theorem State.setCtu_stc (s : State) (x : Ctu) : (s.setCtu x).stc = s.stc := rfl
@[simp] theorem State.setCtu_lkp (s : State) (x : Ctu) : (s.setCtu x).lkp = s.lkp := rfl
@[simp] theorem State.setCtu_pending (s : State) (x : Ctu) : (s.setCtu x).pending = s.pending := rfl

/-! ### `State.setCru` -/

@[simp] theorem State.setCru_pins (s : State) (x : Cru) : (s.setCru x).pins = s.pins := rfl
@[simp] theorem State.setCru_now (s : State) (x : Cru) : (s.setCru x).now = s.now := rfl
@[simp] theorem State.setCru_comm (s : State) (x : Cru) : (s.setCru x).comm = s.comm := rfl
@[simp] theorem State.setCru_psv (s : State) (x : Cru) : (s.setCru x).psv = s.psv := rfl
@[simp] theorem State.setCru_miu (s : State) (x : Cru) : (s.setCru x).miu = s.miu := rfl
@[simp] theorem State.setCru_ace (s : State) (x : Cru) : (s.setCru x).ace = s.ace := rfl
@[simp] theorem State.setCru_ctu (s : State) (x : Cru) : (s.setCru x).ctu = s.ctu := rfl
@[simp] theorem State.setCru_cru (s : State) (x : Cru) : (s.setCru x).cru = x := rfl
@[simp] theorem State.setCru_ssc (s : State) (x : Cru) : (s.setCru x).ssc = s.ssc := rfl
@[simp] theorem State.setCru_tmn (s : State) (x : Cru) : (s.setCru x).tmn = s.tmn := rfl
@[simp] theorem State.setCru_stc (s : State) (x : Cru) : (s.setCru x).stc = s.stc := rfl
@[simp] theorem State.setCru_lkp (s : State) (x : Cru) : (s.setCru x).lkp = s.lkp := rfl
@[simp] theorem State.setCru_pending (s : State) (x : Cru) : (s.setCru x).pending = s.pending := rfl

/-! ### `State.setSsc` -/

@[simp] theorem State.setSsc_pins (s : State) (x : Ssc) : (s.setSsc x).pins = s.pins := rfl
@[simp] theorem State.setSsc_now (s : State) (x : Ssc) : (s.setSsc x).now = s.now := rfl
@[simp] theorem State.setSsc_comm (s : State) (x : Ssc) : (s.setSsc x).comm = s.comm := rfl
@[simp] theorem State.setSsc_psv (s : State) (x : Ssc) : (s.setSsc x).psv = s.psv := rfl
@[simp] theorem State.setSsc_miu (s : State) (x : Ssc) : (s.setSsc x).miu = s.miu := rfl
@[simp] theorem State.setSsc_ace (s : State) (x : Ssc) : (s.setSsc x).ace = s.ace := rfl
@[simp] theorem State.setSsc_ctu (s : State) (x : Ssc) : (s.setSsc x).ctu = s.ctu := rfl
@[simp] theorem State.setSsc_cru (s : State) (x : Ssc) : (s.setSsc x).cru = s.cru := rfl
@[simp] theorem State.setSsc_ssc (s : State) (x : Ssc) : (s.setSsc x).ssc = x := rfl
@[simp] theorem State.setSsc_tmn (s : State) (x : Ssc) : (s.setSsc x).tmn = s.tmn := rfl
@[simp] theorem State.setSsc_stc (s : State) (x : Ssc) : (s.setSsc x).stc = s.stc := rfl
@[simp] theorem State.setSsc_lkp (s : State) (x : Ssc) : (s.setSsc x).lkp = s.lkp := rfl
@[simp] theorem State.setSsc_pending (s : State) (x : Ssc) : (s.setSsc x).pending = s.pending := rfl

/-! ### `State.setTmn` -/

@[simp] theorem State.setTmn_pins (s : State) (x : Tmn) : (s.setTmn x).pins = s.pins := rfl
@[simp] theorem State.setTmn_now (s : State) (x : Tmn) : (s.setTmn x).now = s.now := rfl
@[simp] theorem State.setTmn_comm (s : State) (x : Tmn) : (s.setTmn x).comm = s.comm := rfl
@[simp] theorem State.setTmn_psv (s : State) (x : Tmn) : (s.setTmn x).psv = s.psv := rfl
@[simp] theorem State.setTmn_miu (s : State) (x : Tmn) : (s.setTmn x).miu = s.miu := rfl
@[simp] theorem State.setTmn_ace (s : State) (x : Tmn) : (s.setTmn x).ace = s.ace := rfl
@[simp] theorem State.setTmn_ctu (s : State) (x : Tmn) : (s.setTmn x).ctu = s.ctu := rfl
@[simp] theorem State.setTmn_cru (s : State) (x : Tmn) : (s.setTmn x).cru = s.cru := rfl
@[simp] theorem State.setTmn_ssc (s : State) (x : Tmn) : (s.setTmn x).ssc = s.ssc := rfl
@[simp] theorem State.setTmn_tmn (s : State) (x : Tmn) : (s.setTmn x).tmn = x := rfl
@[simp] theorem State.setTmn_stc (s : State) (x : Tmn) : (s.setTmn x).stc = s.stc := rfl
@[simp] theorem State.setTmn_lkp (s : State) (x : Tmn) : (s.setTmn x).lkp = s.lkp := rfl
@[simp] theorem State.setTmn_pending (s : State) (x : Tmn) : (s.setTmn x).pending = s.pending := rfl

/-! ### `State.setStc` -/

@[simp] theorem State.setStc_pins (s : State) (x : Stc) : (s.setStc x).pins = s.pins := rfl
@[simp] theorem State.setStc_now (s : State) (x : Stc) : (s.setStc x).now = s.now := rfl
@[simp] theorem State.setStc_comm (s : State) (x : Stc) : (s.setStc x).comm = s.comm := rfl
@[simp] theorem State.setStc_psv (s : State) (x : Stc) : (s.setStc x).psv = s.psv := rfl
@[simp] theorem State.setStc_miu (s : State) (x : Stc) : (s.setStc x).miu = s.miu := rfl
@[simp] theorem State.setStc_ace (s : State) (x : Stc) : (s.setStc x).ace = s.ace := rfl
@[simp] theorem State.setStc_ctu (s : State) (x : Stc) : (s.setStc x).ctu = s.ctu := rfl
@[simp] theorem State.setStc_cru (s : State) (x : Stc) : (s.setStc x).cru = s.cru := rfl
@[simp] theorem State.setStc_ssc (s : State) (x : Stc) : (s.setStc x).ssc = s.ssc := rfl
@[simp] theorem State.setStc_tmn (s : State) (x : Stc) : (s.setStc x).tmn = s.tmn := rfl
@[simp] theorem State.setStc_stc (s : State) (x : Stc) : (s.setStc x).stc = x := rfl
@[simp] theorem State.setStc_lkp (s : State) (x : Stc) : (s.setStc x).lkp = s.lkp := rfl
@[simp] theorem State.setStc_pending (s : State) (x : Stc) : (s.setStc x).pending = s.pending := rfl

/-! ### `State.setLkp` -/

@[simp] theorem State.setLkp_pins (s : State) (x : Lkp) : (s.setLkp x).pins = s.pins := rfl
@[simp] theorem State.setLkp_now (s : State) (x : Lkp) : (s.setLkp x).now = s.now := rfl
@[simp] theorem State.setLkp_comm (s : State) (x : Lkp) : (s.setLkp x).comm = s.comm := rfl
@[simp] theorem State.setLkp_psv (s : State) (x : Lkp) : (s.setLkp x).psv = s.psv := rfl
@[simp] theorem State.setLkp_miu (s : State) (x : Lkp) : (s.setLkp x).miu = s.miu := rfl
@[simp] theorem State.setLkp_ace (s : State) (x : Lkp) : (s.setLkp x).ace = s.ace := rfl
@[simp] theorem State.setLkp_ctu (s : State) (x : Lkp) : (s.setLkp x).ctu = s.ctu := rfl
@[simp] theorem State.setLkp_cru (s : State) (x : Lkp) : (s.setLkp x).cru = s.cru := rfl
@[simp] theorem State.setLkp_ssc (s : State) (x : Lkp) : (s.setLkp x).ssc = s.ssc := rfl
@[simp] theorem State.setLkp_tmn (s : State) (x : Lkp) : (s.setLkp x).tmn = s.tmn := rfl
@[simp] theorem State.setLkp_stc (s : State) (x : Lkp) : (s.setLkp x).stc = s.stc := rfl
@[simp] theorem State.setLkp_lkp (s : State) (x : Lkp) : (s.setLkp x).lkp = x := rfl
@[simp] theorem State.setLkp_pending (s : State) (x : Lkp) : (s.setLkp x).pending = s.pending := rfl

/-! ### `State.setPending` -/

@[simp] theorem State.setPending_pins (s : State) (x : List Instr) : (s.setPending x).pins = s.pins := rfl
@[simp] theorem State.setPending_now (s : State) (x : List Instr) : (s.setPending x).now = s.now := rfl
@[simp] theorem State.setPending_comm (s : State) (x : List Instr) : (s.setPending x).comm = s.comm := rfl
@[simp] theorem State.setPending_psv (s : State) (x : List Instr) : (s.setPending x).psv = s.psv := rfl
@[simp] theorem State.setPending_miu (s : State) (x : List Instr) : (s.setPending x).miu = s.miu := rfl
@[simp] theorem State.setPending_ace (s : State) (x : List Instr) : (s.setPending x).ace = s.ace := rfl
@[simp] theorem State.setPending_ctu (s : State) (x : List Instr) : (s.setPending x).ctu = s.ctu := rfl
@[simp] theorem State.setPending_cru (s : State) (x : List Instr) : (s.setPending x).cru = s.cru := rfl
@[simp] theorem State.setPending_ssc (s : State) (x : List Instr) : (s.setPending x).ssc = s.ssc := rfl
@[simp] theorem State.setPending_tmn (s : State) (x : List Instr) : (s.setPending x).tmn = s.tmn := rfl
@[simp] theorem State.setPending_stc (s : State) (x : List Instr) : (s.setPending x).stc = s.stc := rfl
@[simp] theorem State.setPending_lkp (s : State) (x : List Instr) : (s.setPending x).lkp = s.lkp := rfl
@[simp] theorem State.setPending_pending (s : State) (x : List Instr) : (s.setPending x).pending = x := rfl

end Sys2Proof.Machine
end

