-- ==== Sys2Proof/Laws/FrameSupply.lean ====
section
/-! SUPPORT. What SSC's and TMN's shared operations, up to TMN's judgement leave unchanged, one lemma per operation. -/

namespace Sys2Proof.Machine

@[simp] theorem markAlert_frame (a : Alert) (s : State) :
    (markAlert a s).pins = s.pins ∧
    (markAlert a s).now = s.now ∧
    (markAlert a s).comm = s.comm ∧
    (markAlert a s).psv = s.psv ∧
    (markAlert a s).miu = s.miu ∧
    (markAlert a s).ace = s.ace ∧
    (markAlert a s).ctu = s.ctu ∧
    (markAlert a s).cru = s.cru ∧
    (markAlert a s).ssc = s.ssc ∧
    (markAlert a s).tmn = s.tmn ∧
    (markAlert a s).stc = s.stc ∧
    (markAlert a s).pending = s.pending := by
  simp [markAlert]

@[simp] theorem raiseAlert_frame (a : Alert) (s : State) :
    (raiseAlert a s).pins = s.pins ∧
    (raiseAlert a s).now = s.now ∧
    (raiseAlert a s).comm = s.comm ∧
    (raiseAlert a s).psv = s.psv ∧
    (raiseAlert a s).miu = s.miu ∧
    (raiseAlert a s).ace = s.ace ∧
    (raiseAlert a s).ctu = s.ctu ∧
    (raiseAlert a s).cru = s.cru ∧
    (raiseAlert a s).ssc = s.ssc ∧
    (raiseAlert a s).tmn = s.tmn ∧
    (raiseAlert a s).stc = s.stc ∧
    (raiseAlert a s).pending = s.pending := by
  unfold raiseAlert
  repeat' split
  all_goals simp

@[simp] theorem elapse_frame (n : Nat) (s : State) :
    (elapse n s).pins = s.pins ∧
    (elapse n s).comm = s.comm ∧
    (elapse n s).ace = s.ace ∧
    (elapse n s).cru = s.cru ∧
    (elapse n s).stc = s.stc ∧
    (elapse n s).lkp = s.lkp ∧
    (elapse n s).pending = s.pending := by
  unfold elapse
  repeat' split
  all_goals simp

@[simp] theorem appendEventAt_frame (time : Stamp) (k : EventKind) (s : State) :
    (appendEventAt time k s).pins = s.pins ∧
    (appendEventAt time k s).now = s.now ∧
    (appendEventAt time k s).comm = s.comm ∧
    (appendEventAt time k s).psv = s.psv ∧
    (appendEventAt time k s).miu = s.miu ∧
    (appendEventAt time k s).ace = s.ace ∧
    (appendEventAt time k s).ctu = s.ctu ∧
    (appendEventAt time k s).cru = s.cru ∧
    (appendEventAt time k s).ssc = s.ssc ∧
    (appendEventAt time k s).stc = s.stc ∧
    (appendEventAt time k s).lkp = s.lkp ∧
    (appendEventAt time k s).pending = s.pending := by
  unfold appendEventAt
  repeat' split
  all_goals simp

@[simp] theorem appendEvent_frame (k : EventKind) (s : State) :
    (appendEvent k s).pins = s.pins ∧
    (appendEvent k s).now = s.now ∧
    (appendEvent k s).comm = s.comm ∧
    (appendEvent k s).psv = s.psv ∧
    (appendEvent k s).miu = s.miu ∧
    (appendEvent k s).ace = s.ace ∧
    (appendEvent k s).ctu = s.ctu ∧
    (appendEvent k s).cru = s.cru ∧
    (appendEvent k s).ssc = s.ssc ∧
    (appendEvent k s).stc = s.stc ∧
    (appendEvent k s).lkp = s.lkp ∧
    (appendEvent k s).pending = s.pending := by
  simp [appendEvent]

@[simp] theorem requestCheckpoint_frame (u : Bool) (s : State) :
    (requestCheckpoint u s).pins = s.pins ∧
    (requestCheckpoint u s).now = s.now ∧
    (requestCheckpoint u s).comm = s.comm ∧
    (requestCheckpoint u s).psv = s.psv ∧
    (requestCheckpoint u s).miu = s.miu ∧
    (requestCheckpoint u s).ace = s.ace ∧
    (requestCheckpoint u s).ctu = s.ctu ∧
    (requestCheckpoint u s).cru = s.cru ∧
    (requestCheckpoint u s).ssc = s.ssc ∧
    (requestCheckpoint u s).tmn = s.tmn ∧
    (requestCheckpoint u s).lkp = s.lkp ∧
    (requestCheckpoint u s).pending = s.pending := by
  unfold requestCheckpoint
  repeat' split
  all_goals simp

@[simp] theorem pushReply_frame (r : Reply) (s : State) :
    (pushReply r s).pins = s.pins ∧
    (pushReply r s).now = s.now ∧
    (pushReply r s).comm = s.comm ∧
    (pushReply r s).psv = s.psv ∧
    (pushReply r s).miu = s.miu ∧
    (pushReply r s).ace = s.ace ∧
    (pushReply r s).ctu = s.ctu ∧
    (pushReply r s).cru = s.cru ∧
    (pushReply r s).ssc = s.ssc ∧
    (pushReply r s).tmn = s.tmn ∧
    (pushReply r s).stc = s.stc ∧
    (pushReply r s).pending = s.pending := by
  unfold pushReply
  repeat' split
  all_goals simp

@[simp] theorem setRecord_frame (k : TamperKind) (r : KindRecord) (s : State) :
    (setRecord k r s).pins = s.pins ∧
    (setRecord k r s).now = s.now ∧
    (setRecord k r s).comm = s.comm ∧
    (setRecord k r s).psv = s.psv ∧
    (setRecord k r s).miu = s.miu ∧
    (setRecord k r s).ace = s.ace ∧
    (setRecord k r s).ctu = s.ctu ∧
    (setRecord k r s).cru = s.cru ∧
    (setRecord k r s).ssc = s.ssc ∧
    (setRecord k r s).stc = s.stc ∧
    (setRecord k r s).lkp = s.lkp ∧
    (setRecord k r s).pending = s.pending := by
  simp [setRecord]

@[simp] theorem requestOrMark_frame (s : State) :
    (requestOrMark s).pins = s.pins ∧
    (requestOrMark s).now = s.now ∧
    (requestOrMark s).comm = s.comm ∧
    (requestOrMark s).psv = s.psv ∧
    (requestOrMark s).miu = s.miu ∧
    (requestOrMark s).ace = s.ace ∧
    (requestOrMark s).ctu = s.ctu ∧
    (requestOrMark s).cru = s.cru ∧
    (requestOrMark s).ssc = s.ssc ∧
    (requestOrMark s).lkp = s.lkp ∧
    (requestOrMark s).pending = s.pending := by
  unfold requestOrMark
  repeat' split
  all_goals simp

@[simp] theorem occurrence_frame (k : TamperKind) (side : Option Side) (s : State) :
    (occurrence k side s).pins = s.pins ∧
    (occurrence k side s).now = s.now ∧
    (occurrence k side s).comm = s.comm ∧
    (occurrence k side s).psv = s.psv ∧
    (occurrence k side s).miu = s.miu ∧
    (occurrence k side s).ace = s.ace ∧
    (occurrence k side s).ctu = s.ctu ∧
    (occurrence k side s).cru = s.cru ∧
    (occurrence k side s).ssc = s.ssc ∧
    (occurrence k side s).pending = s.pending := by
  unfold occurrence
  dsimp only
  repeat' split
  all_goals simp

@[simp] theorem conditionRises_frame (k : TamperKind) (side : Option Side) (s : State) :
    (conditionRises k side s).pins = s.pins ∧
    (conditionRises k side s).now = s.now ∧
    (conditionRises k side s).comm = s.comm ∧
    (conditionRises k side s).psv = s.psv ∧
    (conditionRises k side s).miu = s.miu ∧
    (conditionRises k side s).ace = s.ace ∧
    (conditionRises k side s).ctu = s.ctu ∧
    (conditionRises k side s).cru = s.cru ∧
    (conditionRises k side s).ssc = s.ssc ∧
    (conditionRises k side s).pending = s.pending := by
  unfold conditionRises
  repeat' split
  all_goals simp

@[simp] theorem conditionFalls_frame (k : TamperKind) (s : State) :
    (conditionFalls k s).pins = s.pins ∧
    (conditionFalls k s).now = s.now ∧
    (conditionFalls k s).comm = s.comm ∧
    (conditionFalls k s).psv = s.psv ∧
    (conditionFalls k s).miu = s.miu ∧
    (conditionFalls k s).ace = s.ace ∧
    (conditionFalls k s).ctu = s.ctu ∧
    (conditionFalls k s).cru = s.cru ∧
    (conditionFalls k s).ssc = s.ssc ∧
    (conditionFalls k s).stc = s.stc ∧
    (conditionFalls k s).lkp = s.lkp ∧
    (conditionFalls k s).pending = s.pending := by
  unfold conditionFalls
  dsimp only
  repeat' split
  all_goals simp

@[simp] theorem reportQuiet_frame (k : TamperKind) (v : Views) (s : State) :
    (reportQuiet k v s).pins = s.pins ∧
    (reportQuiet k v s).now = s.now ∧
    (reportQuiet k v s).comm = s.comm ∧
    (reportQuiet k v s).psv = s.psv ∧
    (reportQuiet k v s).miu = s.miu ∧
    (reportQuiet k v s).ace = s.ace ∧
    (reportQuiet k v s).ctu = s.ctu ∧
    (reportQuiet k v s).cru = s.cru ∧
    (reportQuiet k v s).ssc = s.ssc ∧
    (reportQuiet k v s).pending = s.pending := by
  unfold reportQuiet
  dsimp only
  repeat' split
  all_goals simp

@[simp] theorem miuLeavesOpen_frame (s : State) :
    (miuLeavesOpen s).pins = s.pins ∧
    (miuLeavesOpen s).now = s.now ∧
    (miuLeavesOpen s).comm = s.comm ∧
    (miuLeavesOpen s).psv = s.psv ∧
    (miuLeavesOpen s).ace = s.ace ∧
    (miuLeavesOpen s).ctu = s.ctu ∧
    (miuLeavesOpen s).cru = s.cru ∧
    (miuLeavesOpen s).ssc = s.ssc ∧
    (miuLeavesOpen s).pending = s.pending := by
  unfold miuLeavesOpen
  dsimp only
  repeat' split
  all_goals simp

@[simp] theorem tellMiu_frame (st : SupplyState) (s : State) :
    (tellMiu st s).pins = s.pins ∧
    (tellMiu st s).now = s.now ∧
    (tellMiu st s).comm = s.comm ∧
    (tellMiu st s).psv = s.psv ∧
    (tellMiu st s).ace = s.ace ∧
    (tellMiu st s).ctu = s.ctu ∧
    (tellMiu st s).cru = s.cru ∧
    (tellMiu st s).ssc = s.ssc ∧
    (tellMiu st s).pending = s.pending := by
  unfold tellMiu
  dsimp only
  repeat' split
  all_goals simp

@[simp] theorem leaveOpen_frame (s : State) :
    (leaveOpen s).pins = s.pins ∧
    (leaveOpen s).now = s.now ∧
    (leaveOpen s).comm = s.comm ∧
    (leaveOpen s).psv = s.psv ∧
    (leaveOpen s).miu = s.miu ∧
    (leaveOpen s).ace = s.ace ∧
    (leaveOpen s).ctu = s.ctu ∧
    (leaveOpen s).cru = s.cru ∧
    (leaveOpen s).pending = s.pending := by
  unfold leaveOpen
  dsimp only
  repeat' split
  all_goals simp

@[simp] theorem enterState_frame (st : SupplyState) (s : State) :
    (enterState st s).pins = s.pins ∧
    (enterState st s).now = s.now ∧
    (enterState st s).comm = s.comm ∧
    (enterState st s).psv = s.psv ∧
    (enterState st s).ace = s.ace ∧
    (enterState st s).ctu = s.ctu ∧
    (enterState st s).cru = s.cru ∧
    (enterState st s).pending = s.pending := by
  unfold enterState
  dsimp only
  repeat' split
  all_goals simp

@[simp] theorem startRun_frame (dir : Direction) (s : State) :
    (startRun dir s).pins = s.pins ∧
    (startRun dir s).now = s.now ∧
    (startRun dir s).comm = s.comm ∧
    (startRun dir s).psv = s.psv ∧
    (startRun dir s).miu = s.miu ∧
    (startRun dir s).ace = s.ace ∧
    (startRun dir s).ctu = s.ctu ∧
    (startRun dir s).cru = s.cru ∧
    (startRun dir s).tmn = s.tmn ∧
    (startRun dir s).stc = s.stc ∧
    (startRun dir s).lkp = s.lkp ∧
    (startRun dir s).pending = s.pending := by
  simp [startRun]

@[simp] theorem enterOpening_frame (s : State) :
    (enterOpening s).pins = s.pins ∧
    (enterOpening s).now = s.now ∧
    (enterOpening s).comm = s.comm ∧
    (enterOpening s).psv = s.psv ∧
    (enterOpening s).ace = s.ace ∧
    (enterOpening s).ctu = s.ctu ∧
    (enterOpening s).cru = s.cru ∧
    (enterOpening s).pending = s.pending := by
  simp [enterOpening]

@[simp] theorem enterClosing_frame (s : State) :
    (enterClosing s).pins = s.pins ∧
    (enterClosing s).now = s.now ∧
    (enterClosing s).comm = s.comm ∧
    (enterClosing s).psv = s.psv ∧
    (enterClosing s).ace = s.ace ∧
    (enterClosing s).ctu = s.ctu ∧
    (enterClosing s).cru = s.cru ∧
    (enterClosing s).pending = s.pending := by
  simp [enterClosing]

@[simp] theorem enterArmed_frame (s : State) :
    (enterArmed s).pins = s.pins ∧
    (enterArmed s).now = s.now ∧
    (enterArmed s).comm = s.comm ∧
    (enterArmed s).psv = s.psv ∧
    (enterArmed s).ace = s.ace ∧
    (enterArmed s).ctu = s.ctu ∧
    (enterArmed s).cru = s.cru ∧
    (enterArmed s).pending = s.pending := by
  simp [enterArmed]

@[simp] theorem judgeOpen_frame (s : State) :
    (judgeOpen s).pins = s.pins ∧
    (judgeOpen s).now = s.now ∧
    (judgeOpen s).comm = s.comm ∧
    (judgeOpen s).psv = s.psv ∧
    (judgeOpen s).ace = s.ace ∧
    (judgeOpen s).ctu = s.ctu ∧
    (judgeOpen s).cru = s.cru ∧
    (judgeOpen s).pending = s.pending := by
  unfold judgeOpen
  repeat' split
  all_goals simp

@[simp] theorem enterOpen_frame (e : Bool) (s : State) :
    (enterOpen e s).pins = s.pins ∧
    (enterOpen e s).now = s.now ∧
    (enterOpen e s).comm = s.comm ∧
    (enterOpen e s).psv = s.psv ∧
    (enterOpen e s).ace = s.ace ∧
    (enterOpen e s).ctu = s.ctu ∧
    (enterOpen e s).cru = s.cru ∧
    (enterOpen e s).pending = s.pending := by
  unfold enterOpen
  dsimp only
  repeat' split
  all_goals simp

@[simp] theorem enterWarning_frame (s : State) :
    (enterWarning s).pins = s.pins ∧
    (enterWarning s).now = s.now ∧
    (enterWarning s).comm = s.comm ∧
    (enterWarning s).psv = s.psv ∧
    (enterWarning s).ace = s.ace ∧
    (enterWarning s).ctu = s.ctu ∧
    (enterWarning s).cru = s.cru ∧
    (enterWarning s).pending = s.pending := by
  simp [enterWarning]

@[simp] theorem enterDeferred_frame (s : State) :
    (enterDeferred s).pins = s.pins ∧
    (enterDeferred s).now = s.now ∧
    (enterDeferred s).comm = s.comm ∧
    (enterDeferred s).psv = s.psv ∧
    (enterDeferred s).ace = s.ace ∧
    (enterDeferred s).ctu = s.ctu ∧
    (enterDeferred s).cru = s.cru ∧
    (enterDeferred s).pending = s.pending := by
  simp [enterDeferred]

@[simp] theorem warnOrDefer_frame (s : State) :
    (warnOrDefer s).pins = s.pins ∧
    (warnOrDefer s).now = s.now ∧
    (warnOrDefer s).comm = s.comm ∧
    (warnOrDefer s).psv = s.psv ∧
    (warnOrDefer s).ace = s.ace ∧
    (warnOrDefer s).ctu = s.ctu ∧
    (warnOrDefer s).cru = s.cru ∧
    (warnOrDefer s).pending = s.pending := by
  unfold warnOrDefer
  repeat' split
  all_goals simp

@[simp] theorem judgeClosed_frame (s : State) :
    (judgeClosed s).pins = s.pins ∧
    (judgeClosed s).now = s.now ∧
    (judgeClosed s).comm = s.comm ∧
    (judgeClosed s).psv = s.psv ∧
    (judgeClosed s).ace = s.ace ∧
    (judgeClosed s).ctu = s.ctu ∧
    (judgeClosed s).cru = s.cru ∧
    (judgeClosed s).pending = s.pending := by
  unfold judgeClosed
  repeat' split
  all_goals simp

@[simp] theorem enterClosed_frame (s : State) :
    (enterClosed s).pins = s.pins ∧
    (enterClosed s).now = s.now ∧
    (enterClosed s).comm = s.comm ∧
    (enterClosed s).psv = s.psv ∧
    (enterClosed s).ace = s.ace ∧
    (enterClosed s).ctu = s.ctu ∧
    (enterClosed s).cru = s.cru ∧
    (enterClosed s).pending = s.pending := by
  simp [enterClosed]

@[simp] theorem putCause_frame (k : Cause) (x : Bool) (s : State) :
    (putCause k x s).pins = s.pins ∧
    (putCause k x s).now = s.now ∧
    (putCause k x s).comm = s.comm ∧
    (putCause k x s).psv = s.psv ∧
    (putCause k x s).miu = s.miu ∧
    (putCause k x s).ace = s.ace ∧
    (putCause k x s).ctu = s.ctu ∧
    (putCause k x s).cru = s.cru ∧
    (putCause k x s).tmn = s.tmn ∧
    (putCause k x s).stc = s.stc ∧
    (putCause k x s).lkp = s.lkp ∧
    (putCause k x s).pending = s.pending := by
  unfold putCause
  dsimp only
  repeat' split
  all_goals simp

@[simp] theorem reactJoin_frame (k : Cause) (s : State) :
    (reactJoin k s).pins = s.pins ∧
    (reactJoin k s).now = s.now ∧
    (reactJoin k s).comm = s.comm ∧
    (reactJoin k s).psv = s.psv ∧
    (reactJoin k s).ace = s.ace ∧
    (reactJoin k s).ctu = s.ctu ∧
    (reactJoin k s).cru = s.cru ∧
    (reactJoin k s).pending = s.pending := by
  unfold reactJoin
  repeat' split
  all_goals simp

@[simp] theorem reactLeave_frame (k : Cause) (s : State) :
    (reactLeave k s).pins = s.pins ∧
    (reactLeave k s).now = s.now ∧
    (reactLeave k s).comm = s.comm ∧
    (reactLeave k s).psv = s.psv ∧
    (reactLeave k s).ace = s.ace ∧
    (reactLeave k s).ctu = s.ctu ∧
    (reactLeave k s).cru = s.cru ∧
    (reactLeave k s).pending = s.pending := by
  unfold reactLeave
  repeat' split
  all_goals simp

@[simp] theorem setCause_frame (k : Cause) (x : Bool) (s : State) :
    (setCause k x s).pins = s.pins ∧
    (setCause k x s).now = s.now ∧
    (setCause k x s).comm = s.comm ∧
    (setCause k x s).psv = s.psv ∧
    (setCause k x s).ace = s.ace ∧
    (setCause k x s).ctu = s.ctu ∧
    (setCause k x s).cru = s.cru ∧
    (setCause k x s).pending = s.pending := by
  unfold setCause
  dsimp only
  repeat' split
  all_goals simp

@[simp] theorem tellFriendly_frame (f : Bool) (s : State) :
    (tellFriendly f s).pins = s.pins ∧
    (tellFriendly f s).now = s.now ∧
    (tellFriendly f s).comm = s.comm ∧
    (tellFriendly f s).psv = s.psv ∧
    (tellFriendly f s).ace = s.ace ∧
    (tellFriendly f s).ctu = s.ctu ∧
    (tellFriendly f s).cru = s.cru ∧
    (tellFriendly f s).pending = s.pending := by
  unfold tellFriendly
  dsimp only
  repeat' split
  all_goals simp

@[simp] theorem tellLow_frame (x : Bool) (s : State) :
    (tellLow x s).pins = s.pins ∧
    (tellLow x s).now = s.now ∧
    (tellLow x s).comm = s.comm ∧
    (tellLow x s).psv = s.psv ∧
    (tellLow x s).miu = s.miu ∧
    (tellLow x s).ace = s.ace ∧
    (tellLow x s).ctu = s.ctu ∧
    (tellLow x s).cru = s.cru ∧
    (tellLow x s).tmn = s.tmn ∧
    (tellLow x s).stc = s.stc ∧
    (tellLow x s).lkp = s.lkp ∧
    (tellLow x s).pending = s.pending := by
  simp [tellLow]

@[simp] theorem tellEmergency_frame (x : Bool) (s : State) :
    (tellEmergency x s).pins = s.pins ∧
    (tellEmergency x s).now = s.now ∧
    (tellEmergency x s).comm = s.comm ∧
    (tellEmergency x s).psv = s.psv ∧
    (tellEmergency x s).miu = s.miu ∧
    (tellEmergency x s).ace = s.ace ∧
    (tellEmergency x s).ctu = s.ctu ∧
    (tellEmergency x s).cru = s.cru ∧
    (tellEmergency x s).tmn = s.tmn ∧
    (tellEmergency x s).stc = s.stc ∧
    (tellEmergency x s).lkp = s.lkp ∧
    (tellEmergency x s).pending = s.pending := by
  simp [tellEmergency]

@[simp] theorem switchFaultRises_frame (s : State) :
    (switchFaultRises s).pins = s.pins ∧
    (switchFaultRises s).now = s.now ∧
    (switchFaultRises s).comm = s.comm ∧
    (switchFaultRises s).psv = s.psv ∧
    (switchFaultRises s).miu = s.miu ∧
    (switchFaultRises s).ace = s.ace ∧
    (switchFaultRises s).ctu = s.ctu ∧
    (switchFaultRises s).cru = s.cru ∧
    (switchFaultRises s).pending = s.pending := by
  unfold switchFaultRises
  dsimp only
  repeat' split
  all_goals simp

@[simp] theorem switchFaultFalls_frame (s : State) :
    (switchFaultFalls s).pins = s.pins ∧
    (switchFaultFalls s).now = s.now ∧
    (switchFaultFalls s).comm = s.comm ∧
    (switchFaultFalls s).psv = s.psv ∧
    (switchFaultFalls s).miu = s.miu ∧
    (switchFaultFalls s).ace = s.ace ∧
    (switchFaultFalls s).ctu = s.ctu ∧
    (switchFaultFalls s).cru = s.cru ∧
    (switchFaultFalls s).ssc = s.ssc ∧
    (switchFaultFalls s).pending = s.pending := by
  simp [switchFaultFalls]

@[simp] theorem startStuckRetry_frame (s : State) :
    (startStuckRetry s).pins = s.pins ∧
    (startStuckRetry s).now = s.now ∧
    (startStuckRetry s).comm = s.comm ∧
    (startStuckRetry s).psv = s.psv ∧
    (startStuckRetry s).miu = s.miu ∧
    (startStuckRetry s).ace = s.ace ∧
    (startStuckRetry s).ctu = s.ctu ∧
    (startStuckRetry s).cru = s.cru ∧
    (startStuckRetry s).tmn = s.tmn ∧
    (startStuckRetry s).stc = s.stc ∧
    (startStuckRetry s).lkp = s.lkp ∧
    (startStuckRetry s).pending = s.pending := by
  unfold startStuckRetry
  repeat' split
  all_goals simp

@[simp] theorem enterStuck_frame (dir : Direction) (s : State) :
    (enterStuck dir s).pins = s.pins ∧
    (enterStuck dir s).now = s.now ∧
    (enterStuck dir s).comm = s.comm ∧
    (enterStuck dir s).psv = s.psv ∧
    (enterStuck dir s).ace = s.ace ∧
    (enterStuck dir s).ctu = s.ctu ∧
    (enterStuck dir s).cru = s.cru ∧
    (enterStuck dir s).pending = s.pending := by
  unfold enterStuck
  dsimp only
  repeat' split
  all_goals simp

@[simp] theorem runSucceeds_frame (dir : Direction) (s : State) :
    (runSucceeds dir s).pins = s.pins ∧
    (runSucceeds dir s).now = s.now ∧
    (runSucceeds dir s).comm = s.comm ∧
    (runSucceeds dir s).psv = s.psv ∧
    (runSucceeds dir s).ace = s.ace ∧
    (runSucceeds dir s).ctu = s.ctu ∧
    (runSucceeds dir s).cru = s.cru ∧
    (runSucceeds dir s).pending = s.pending := by
  unfold runSucceeds
  dsimp only
  repeat' split
  all_goals simp

@[simp] theorem runFails_frame (dir : Direction) (s : State) :
    (runFails dir s).pins = s.pins ∧
    (runFails dir s).now = s.now ∧
    (runFails dir s).comm = s.comm ∧
    (runFails dir s).psv = s.psv ∧
    (runFails dir s).ace = s.ace ∧
    (runFails dir s).ctu = s.ctu ∧
    (runFails dir s).cru = s.cru ∧
    (runFails dir s).pending = s.pending := by
  unfold runFails
  dsimp only
  repeat' split
  all_goals simp

@[simp] theorem attemptFails_frame (r : DriveRun) (why : FailReason) (s : State) :
    (attemptFails r why s).pins = s.pins ∧
    (attemptFails r why s).now = s.now ∧
    (attemptFails r why s).comm = s.comm ∧
    (attemptFails r why s).psv = s.psv ∧
    (attemptFails r why s).ace = s.ace ∧
    (attemptFails r why s).ctu = s.ctu ∧
    (attemptFails r why s).cru = s.cru ∧
    (attemptFails r why s).pending = s.pending := by
  unfold attemptFails
  repeat' split
  all_goals simp

@[simp] theorem judgeTamper_frame (s : State) :
    (judgeTamper s).pins = s.pins ∧
    (judgeTamper s).now = s.now ∧
    (judgeTamper s).comm = s.comm ∧
    (judgeTamper s).psv = s.psv ∧
    (judgeTamper s).ace = s.ace ∧
    (judgeTamper s).ctu = s.ctu ∧
    (judgeTamper s).cru = s.cru ∧
    (judgeTamper s).pending = s.pending := by
  unfold judgeTamper
  repeat' split
  all_goals simp

@[simp] theorem report_frame (k : TamperKind) (v : Views) (s : State) :
    (report k v s).pins = s.pins ∧
    (report k v s).now = s.now ∧
    (report k v s).comm = s.comm ∧
    (report k v s).psv = s.psv ∧
    (report k v s).ace = s.ace ∧
    (report k v s).ctu = s.ctu ∧
    (report k v s).cru = s.cru ∧
    (report k v s).pending = s.pending := by
  unfold report
  repeat' split
  all_goals simp

@[simp] theorem switchLevel_frame (sw : Switch) (x : Bool) (s : State) :
    (switchLevel sw x s).pins = s.pins ∧
    (switchLevel sw x s).now = s.now ∧
    (switchLevel sw x s).comm = s.comm ∧
    (switchLevel sw x s).psv = s.psv ∧
    (switchLevel sw x s).ace = s.ace ∧
    (switchLevel sw x s).ctu = s.ctu ∧
    (switchLevel sw x s).cru = s.cru ∧
    (switchLevel sw x s).pending = s.pending := by
  unfold switchLevel
  repeat' split
  all_goals simp

end Sys2Proof.Machine
end

