-- ==== Sys2Proof/Laws/FrameAccount.lean ====
section
/-! SUPPORT. What the shared operations of ACE, CTU and MIU leave unchanged, one lemma per operation. -/

namespace Sys2Proof.Machine

@[simp] theorem judgeCredit_frame (s : State) :
    (judgeCredit s).pins = s.pins ∧
    (judgeCredit s).now = s.now ∧
    (judgeCredit s).comm = s.comm ∧
    (judgeCredit s).psv = s.psv ∧
    (judgeCredit s).ace = s.ace ∧
    (judgeCredit s).ctu = s.ctu ∧
    (judgeCredit s).cru = s.cru ∧
    (judgeCredit s).pending = s.pending := by
  simp [judgeCredit]

@[simp] theorem judgeLow_frame (s : State) :
    (judgeLow s).pins = s.pins ∧
    (judgeLow s).now = s.now ∧
    (judgeLow s).comm = s.comm ∧
    (judgeLow s).psv = s.psv ∧
    (judgeLow s).miu = s.miu ∧
    (judgeLow s).ace = s.ace ∧
    (judgeLow s).ctu = s.ctu ∧
    (judgeLow s).cru = s.cru ∧
    (judgeLow s).tmn = s.tmn ∧
    (judgeLow s).stc = s.stc ∧
    (judgeLow s).pending = s.pending := by
  unfold judgeLow
  dsimp only
  repeat' split
  all_goals simp

@[simp] theorem judgeEmergency_frame (s : State) :
    (judgeEmergency s).pins = s.pins ∧
    (judgeEmergency s).now = s.now ∧
    (judgeEmergency s).comm = s.comm ∧
    (judgeEmergency s).psv = s.psv ∧
    (judgeEmergency s).miu = s.miu ∧
    (judgeEmergency s).ctu = s.ctu ∧
    (judgeEmergency s).cru = s.cru ∧
    (judgeEmergency s).ssc = s.ssc ∧
    (judgeEmergency s).tmn = s.tmn ∧
    (judgeEmergency s).stc = s.stc ∧
    (judgeEmergency s).pending = s.pending := by
  unfold judgeEmergency
  dsimp only
  repeat' split
  all_goals simp

@[simp] theorem judgeAccount_frame (s : State) :
    (judgeAccount s).pins = s.pins ∧
    (judgeAccount s).now = s.now ∧
    (judgeAccount s).comm = s.comm ∧
    (judgeAccount s).psv = s.psv ∧
    (judgeAccount s).ctu = s.ctu ∧
    (judgeAccount s).cru = s.cru ∧
    (judgeAccount s).pending = s.pending := by
  simp [judgeAccount]

@[simp] theorem charge_frame (q : Nat) (s : State) :
    (charge q s).pins = s.pins ∧
    (charge q s).now = s.now ∧
    (charge q s).comm = s.comm ∧
    (charge q s).psv = s.psv ∧
    (charge q s).ctu = s.ctu ∧
    (charge q s).cru = s.cru ∧
    (charge q s).pending = s.pending := by
  unfold charge
  repeat' split
  all_goals simp

@[simp] theorem billPulse_frame (s : State) :
    (billPulse s).pins = s.pins ∧
    (billPulse s).now = s.now ∧
    (billPulse s).comm = s.comm ∧
    (billPulse s).psv = s.psv ∧
    (billPulse s).ctu = s.ctu ∧
    (billPulse s).cru = s.cru ∧
    (billPulse s).pending = s.pending := by
  unfold billPulse
  dsimp only
  repeat' split
  all_goals simp

@[simp] theorem standingCharge_frame (s : State) :
    (standingCharge s).pins = s.pins ∧
    (standingCharge s).now = s.now ∧
    (standingCharge s).comm = s.comm ∧
    (standingCharge s).psv = s.psv ∧
    (standingCharge s).ctu = s.ctu ∧
    (standingCharge s).cru = s.cru ∧
    (standingCharge s).pending = s.pending := by
  simp [standingCharge]

@[simp] theorem aceTick_frame (named : Option Nat) (s : State) :
    (aceTick named s).pins = s.pins ∧
    (aceTick named s).now = s.now ∧
    (aceTick named s).comm = s.comm ∧
    (aceTick named s).psv = s.psv ∧
    (aceTick named s).ctu = s.ctu ∧
    (aceTick named s).cru = s.cru ∧
    (aceTick named s).pending = s.pending := by
  unfold aceTick
  dsimp only
  repeat' split
  all_goals simp

@[simp] theorem endAdvance_frame (s : State) :
    (endAdvance s).pins = s.pins ∧
    (endAdvance s).now = s.now ∧
    (endAdvance s).comm = s.comm ∧
    (endAdvance s).psv = s.psv ∧
    (endAdvance s).miu = s.miu ∧
    (endAdvance s).ctu = s.ctu ∧
    (endAdvance s).cru = s.cru ∧
    (endAdvance s).tmn = s.tmn ∧
    (endAdvance s).stc = s.stc ∧
    (endAdvance s).lkp = s.lkp ∧
    (endAdvance s).pending = s.pending := by
  unfold endAdvance
  repeat' split
  all_goals simp

@[simp] theorem topUp_frame (amount : Nat) (s : State) :
    (topUp amount s).pins = s.pins ∧
    (topUp amount s).now = s.now ∧
    (topUp amount s).comm = s.comm ∧
    (topUp amount s).psv = s.psv ∧
    (topUp amount s).ctu = s.ctu ∧
    (topUp amount s).cru = s.cru ∧
    (topUp amount s).pending = s.pending := by
  simp [topUp]

@[simp] theorem takeEmergency_frame (s : State) :
    (takeEmergency s).pins = s.pins ∧
    (takeEmergency s).now = s.now ∧
    (takeEmergency s).comm = s.comm ∧
    (takeEmergency s).psv = s.psv ∧
    (takeEmergency s).ctu = s.ctu ∧
    (takeEmergency s).cru = s.cru ∧
    (takeEmergency s).pending = s.pending := by
  unfold takeEmergency
  repeat' split
  all_goals simp

@[simp] theorem setCmax_frame (u : Nat) (s : State) :
    (setCmax u s).pins = s.pins ∧
    (setCmax u s).now = s.now ∧
    (setCmax u s).comm = s.comm ∧
    (setCmax u s).psv = s.psv ∧
    (setCmax u s).miu = s.miu ∧
    (setCmax u s).ctu = s.ctu ∧
    (setCmax u s).cru = s.cru ∧
    (setCmax u s).ssc = s.ssc ∧
    (setCmax u s).tmn = s.tmn ∧
    (setCmax u s).stc = s.stc ∧
    (setCmax u s).lkp = s.lkp ∧
    (setCmax u s).pending = s.pending := by
  simp [setCmax]

@[simp] theorem setEmergency_frame (u : Nat) (s : State) :
    (setEmergency u s).pins = s.pins ∧
    (setEmergency u s).now = s.now ∧
    (setEmergency u s).comm = s.comm ∧
    (setEmergency u s).psv = s.psv ∧
    (setEmergency u s).miu = s.miu ∧
    (setEmergency u s).ctu = s.ctu ∧
    (setEmergency u s).cru = s.cru ∧
    (setEmergency u s).ssc = s.ssc ∧
    (setEmergency u s).tmn = s.tmn ∧
    (setEmergency u s).stc = s.stc ∧
    (setEmergency u s).pending = s.pending := by
  simp [setEmergency]

@[simp] theorem setLowThreshold_frame (u : Nat) (s : State) :
    (setLowThreshold u s).pins = s.pins ∧
    (setLowThreshold u s).now = s.now ∧
    (setLowThreshold u s).comm = s.comm ∧
    (setLowThreshold u s).psv = s.psv ∧
    (setLowThreshold u s).miu = s.miu ∧
    (setLowThreshold u s).ctu = s.ctu ∧
    (setLowThreshold u s).cru = s.cru ∧
    (setLowThreshold u s).tmn = s.tmn ∧
    (setLowThreshold u s).stc = s.stc ∧
    (setLowThreshold u s).pending = s.pending := by
  simp [setLowThreshold]

@[simp] theorem setDebt_frame (share units : Nat) (s : State) :
    (setDebt share units s).pins = s.pins ∧
    (setDebt share units s).now = s.now ∧
    (setDebt share units s).comm = s.comm ∧
    (setDebt share units s).psv = s.psv ∧
    (setDebt share units s).miu = s.miu ∧
    (setDebt share units s).ctu = s.ctu ∧
    (setDebt share units s).cru = s.cru ∧
    (setDebt share units s).ssc = s.ssc ∧
    (setDebt share units s).tmn = s.tmn ∧
    (setDebt share units s).stc = s.stc ∧
    (setDebt share units s).lkp = s.lkp ∧
    (setDebt share units s).pending = s.pending := by
  simp [setDebt]

@[simp] theorem judgeBand_frame (s : State) :
    (judgeBand s).pins = s.pins ∧
    (judgeBand s).now = s.now ∧
    (judgeBand s).comm = s.comm ∧
    (judgeBand s).psv = s.psv ∧
    (judgeBand s).ace = s.ace ∧
    (judgeBand s).cru = s.cru ∧
    (judgeBand s).pending = s.pending := by
  unfold judgeBand
  dsimp only
  repeat' split
  all_goals simp

@[simp] theorem activateTariff_frame (t : Tariff) (s : State) :
    (activateTariff t s).pins = s.pins ∧
    (activateTariff t s).now = s.now ∧
    (activateTariff t s).comm = s.comm ∧
    (activateTariff t s).psv = s.psv ∧
    (activateTariff t s).ace = s.ace ∧
    (activateTariff t s).cru = s.cru ∧
    (activateTariff t s).pending = s.pending := by
  simp [activateTariff]

@[simp] theorem activateAtTick_frame (t : Tariff) (s : State) :
    (activateAtTick t s).pins = s.pins ∧
    (activateAtTick t s).now = s.now ∧
    (activateAtTick t s).comm = s.comm ∧
    (activateAtTick t s).psv = s.psv ∧
    (activateAtTick t s).ace = s.ace ∧
    (activateAtTick t s).cru = s.cru ∧
    (activateAtTick t s).pending = s.pending := by
  unfold activateAtTick
  dsimp only
  repeat' split
  all_goals simp

@[simp] theorem activateIfReached_frame (q : Nat) (s : State) :
    (activateIfReached q s).pins = s.pins ∧
    (activateIfReached q s).now = s.now ∧
    (activateIfReached q s).comm = s.comm ∧
    (activateIfReached q s).psv = s.psv ∧
    (activateIfReached q s).ace = s.ace ∧
    (activateIfReached q s).cru = s.cru ∧
    (activateIfReached q s).pending = s.pending := by
  unfold activateIfReached
  repeat' split
  all_goals simp

@[simp] theorem resetTripDay_frame (s : State) :
    (resetTripDay s).pins = s.pins ∧
    (resetTripDay s).now = s.now ∧
    (resetTripDay s).comm = s.comm ∧
    (resetTripDay s).psv = s.psv ∧
    (resetTripDay s).ace = s.ace ∧
    (resetTripDay s).ctu = s.ctu ∧
    (resetTripDay s).cru = s.cru ∧
    (resetTripDay s).pending = s.pending := by
  unfold resetTripDay
  dsimp only
  repeat' split
  all_goals simp

@[simp] theorem sscTick_frame (named : Option Nat) (s : State) :
    (sscTick named s).pins = s.pins ∧
    (sscTick named s).now = s.now ∧
    (sscTick named s).comm = s.comm ∧
    (sscTick named s).psv = s.psv ∧
    (sscTick named s).ace = s.ace ∧
    (sscTick named s).ctu = s.ctu ∧
    (sscTick named s).cru = s.cru ∧
    (sscTick named s).pending = s.pending := by
  unfold sscTick
  repeat' split
  all_goals simp

@[simp] theorem tickActivates_frame (named : Option Nat) (s : State) :
    (tickActivates named s).pins = s.pins ∧
    (tickActivates named s).now = s.now ∧
    (tickActivates named s).comm = s.comm ∧
    (tickActivates named s).psv = s.psv ∧
    (tickActivates named s).ace = s.ace ∧
    (tickActivates named s).cru = s.cru ∧
    (tickActivates named s).pending = s.pending := by
  unfold tickActivates
  repeat' split
  all_goals simp

@[simp] theorem handleTick_frame (named : Option Nat) (s : State) :
    (handleTick named s).pins = s.pins ∧
    (handleTick named s).now = s.now ∧
    (handleTick named s).comm = s.comm ∧
    (handleTick named s).psv = s.psv ∧
    (handleTick named s).cru = s.cru ∧
    (handleTick named s).pending = s.pending := by
  simp [handleTick]

@[simp] theorem issueTick_frame (s : State) :
    (issueTick s).pins = s.pins ∧
    (issueTick s).now = s.now ∧
    (issueTick s).comm = s.comm ∧
    (issueTick s).psv = s.psv ∧
    (issueTick s).miu = s.miu ∧
    (issueTick s).ace = s.ace ∧
    (issueTick s).cru = s.cru ∧
    (issueTick s).ssc = s.ssc ∧
    (issueTick s).tmn = s.tmn ∧
    (issueTick s).stc = s.stc ∧
    (issueTick s).lkp = s.lkp ∧
    (issueTick s).pending = s.pending := by
  unfold issueTick
  repeat' split
  all_goals simp

@[simp] theorem takeIssuedTick_frame (s : State) :
    (takeIssuedTick s).pins = s.pins ∧
    (takeIssuedTick s).now = s.now ∧
    (takeIssuedTick s).comm = s.comm ∧
    (takeIssuedTick s).psv = s.psv ∧
    (takeIssuedTick s).cru = s.cru ∧
    (takeIssuedTick s).pending = s.pending := by
  unfold takeIssuedTick
  repeat' split
  all_goals simp

@[simp] theorem catchUp_frame (n : Nat) (s : State) :
    (catchUp n s).pins = s.pins ∧
    (catchUp n s).now = s.now ∧
    (catchUp n s).comm = s.comm ∧
    (catchUp n s).psv = s.psv ∧
    (catchUp n s).cru = s.cru ∧
    (catchUp n s).pending = s.pending := by
  induction n generalizing s with
  | zero => simp [catchUp]
  | succ n ih => simp [catchUp, ih]

@[simp] theorem setClock_frame (count : Nat) (s : State) :
    (setClock count s).pins = s.pins ∧
    (setClock count s).now = s.now ∧
    (setClock count s).comm = s.comm ∧
    (setClock count s).psv = s.psv ∧
    (setClock count s).cru = s.cru ∧
    (setClock count s).pending = s.pending := by
  simp [setClock]

@[simp] theorem trimClock_frame (a : Int) (s : State) :
    (trimClock a s).2.pins = s.pins ∧
    (trimClock a s).2.now = s.now ∧
    (trimClock a s).2.comm = s.comm ∧
    (trimClock a s).2.psv = s.psv ∧
    (trimClock a s).2.ace = s.ace ∧
    (trimClock a s).2.cru = s.cru ∧
    (trimClock a s).2.pending = s.pending := by
  unfold trimClock
  dsimp only
  repeat' split
  all_goals simp

@[simp] theorem queueFlash_frame (s : State) :
    (queueFlash s).pins = s.pins ∧
    (queueFlash s).now = s.now ∧
    (queueFlash s).comm = s.comm ∧
    (queueFlash s).psv = s.psv ∧
    (queueFlash s).ace = s.ace ∧
    (queueFlash s).ctu = s.ctu ∧
    (queueFlash s).cru = s.cru ∧
    (queueFlash s).ssc = s.ssc ∧
    (queueFlash s).tmn = s.tmn ∧
    (queueFlash s).stc = s.stc ∧
    (queueFlash s).lkp = s.lkp ∧
    (queueFlash s).pending = s.pending := by
  simp [queueFlash]

@[simp] theorem billPulses_frame (n : Nat) (s : State) :
    (billPulses n s).pins = s.pins ∧
    (billPulses n s).now = s.now ∧
    (billPulses n s).comm = s.comm ∧
    (billPulses n s).psv = s.psv ∧
    (billPulses n s).ctu = s.ctu ∧
    (billPulses n s).cru = s.cru ∧
    (billPulses n s).pending = s.pending := by
  induction n generalizing s with
  | zero => simp [billPulses]
  | succ n ih => simp [billPulses, ih]

@[simp] theorem holdPulse_frame (ch : ChannelId) (s : State) :
    (holdPulse ch s).pins = s.pins ∧
    (holdPulse ch s).now = s.now ∧
    (holdPulse ch s).comm = s.comm ∧
    (holdPulse ch s).psv = s.psv ∧
    (holdPulse ch s).ace = s.ace ∧
    (holdPulse ch s).ctu = s.ctu ∧
    (holdPulse ch s).cru = s.cru ∧
    (holdPulse ch s).ssc = s.ssc ∧
    (holdPulse ch s).tmn = s.tmn ∧
    (holdPulse ch s).stc = s.stc ∧
    (holdPulse ch s).lkp = s.lkp ∧
    (holdPulse ch s).pending = s.pending := by
  simp [holdPulse]

@[simp] theorem overloadTrip_frame (s : State) :
    (overloadTrip s).pins = s.pins ∧
    (overloadTrip s).now = s.now ∧
    (overloadTrip s).comm = s.comm ∧
    (overloadTrip s).psv = s.psv ∧
    (overloadTrip s).ace = s.ace ∧
    (overloadTrip s).ctu = s.ctu ∧
    (overloadTrip s).cru = s.cru ∧
    (overloadTrip s).pending = s.pending := by
  unfold overloadTrip
  repeat' split
  all_goals simp

@[simp] theorem raiseOverload_frame (s : State) :
    (raiseOverload s).pins = s.pins ∧
    (raiseOverload s).now = s.now ∧
    (raiseOverload s).comm = s.comm ∧
    (raiseOverload s).psv = s.psv ∧
    (raiseOverload s).ace = s.ace ∧
    (raiseOverload s).ctu = s.ctu ∧
    (raiseOverload s).cru = s.cru ∧
    (raiseOverload s).pending = s.pending := by
  unfold raiseOverload
  dsimp only
  repeat' split
  all_goals simp

@[simp] theorem updateOverRun_frame (ch : ChannelId) (measured : Option Nat) (p : Nat) (s : State) :
    (updateOverRun ch measured p s).pins = s.pins ∧
    (updateOverRun ch measured p s).now = s.now ∧
    (updateOverRun ch measured p s).comm = s.comm ∧
    (updateOverRun ch measured p s).psv = s.psv ∧
    (updateOverRun ch measured p s).ace = s.ace ∧
    (updateOverRun ch measured p s).ctu = s.ctu ∧
    (updateOverRun ch measured p s).cru = s.cru ∧
    (updateOverRun ch measured p s).pending = s.pending := by
  unfold updateOverRun
  dsimp only
  repeat' split
  all_goals simp

@[simp] theorem openWindow_frame (start nL nR : Nat) (s : State) :
    (openWindow start nL nR s).pins = s.pins ∧
    (openWindow start nL nR s).now = s.now ∧
    (openWindow start nL nR s).comm = s.comm ∧
    (openWindow start nL nR s).psv = s.psv ∧
    (openWindow start nL nR s).ace = s.ace ∧
    (openWindow start nL nR s).ctu = s.ctu ∧
    (openWindow start nL nR s).cru = s.cru ∧
    (openWindow start nL nR s).ssc = s.ssc ∧
    (openWindow start nL nR s).tmn = s.tmn ∧
    (openWindow start nL nR s).stc = s.stc ∧
    (openWindow start nL nR s).lkp = s.lkp ∧
    (openWindow start nL nR s).pending = s.pending := by
  simp [openWindow]

@[simp] theorem judgeImbalance_frame (nL nR : Nat) (s : State) :
    (judgeImbalance nL nR s).pins = s.pins ∧
    (judgeImbalance nL nR s).now = s.now ∧
    (judgeImbalance nL nR s).comm = s.comm ∧
    (judgeImbalance nL nR s).psv = s.psv ∧
    (judgeImbalance nL nR s).ace = s.ace ∧
    (judgeImbalance nL nR s).ctu = s.ctu ∧
    (judgeImbalance nL nR s).cru = s.cru ∧
    (judgeImbalance nL nR s).pending = s.pending := by
  unfold judgeImbalance
  dsimp only
  repeat' split
  all_goals simp

@[simp] theorem judgeReverse_frame (rev : Nat) (s : State) :
    (judgeReverse rev s).pins = s.pins ∧
    (judgeReverse rev s).now = s.now ∧
    (judgeReverse rev s).comm = s.comm ∧
    (judgeReverse rev s).psv = s.psv ∧
    (judgeReverse rev s).ace = s.ace ∧
    (judgeReverse rev s).ctu = s.ctu ∧
    (judgeReverse rev s).cru = s.cru ∧
    (judgeReverse rev s).pending = s.pending := by
  unfold judgeReverse
  repeat' split
  all_goals simp

@[simp] theorem judgeConducting_frame (total : Nat) (s : State) :
    (judgeConducting total s).pins = s.pins ∧
    (judgeConducting total s).now = s.now ∧
    (judgeConducting total s).comm = s.comm ∧
    (judgeConducting total s).psv = s.psv ∧
    (judgeConducting total s).ace = s.ace ∧
    (judgeConducting total s).ctu = s.ctu ∧
    (judgeConducting total s).cru = s.cru ∧
    (judgeConducting total s).pending = s.pending := by
  unfold judgeConducting
  dsimp only
  repeat' split
  all_goals simp

@[simp] theorem expireWindow_frame (w : Window) (s : State) :
    (expireWindow w s).pins = s.pins ∧
    (expireWindow w s).now = s.now ∧
    (expireWindow w s).comm = s.comm ∧
    (expireWindow w s).psv = s.psv ∧
    (expireWindow w s).ctu = s.ctu ∧
    (expireWindow w s).cru = s.cru ∧
    (expireWindow w s).pending = s.pending := by
  simp [expireWindow]

end Sys2Proof.Machine
end

