-- ==== Sys2Proof/Laws/FramePower.lean ====
section
/-! SUPPORT. What the shared operations of STC and PSV leave unchanged, one lemma per operation. -/

namespace Sys2Proof.Machine

@[simp] theorem answerSubmit_frame (r : Reply) (s : State) :
    (answerSubmit r s).pins = s.pins ∧
    (answerSubmit r s).now = s.now ∧
    (answerSubmit r s).comm = s.comm ∧
    (answerSubmit r s).psv = s.psv ∧
    (answerSubmit r s).miu = s.miu ∧
    (answerSubmit r s).ace = s.ace ∧
    (answerSubmit r s).ctu = s.ctu ∧
    (answerSubmit r s).cru = s.cru ∧
    (answerSubmit r s).ssc = s.ssc ∧
    (answerSubmit r s).tmn = s.tmn ∧
    (answerSubmit r s).stc = s.stc ∧
    (answerSubmit r s).pending = s.pending := by
  simp [answerSubmit]

@[simp] theorem dropCode_frame (r : Reply) (s : State) :
    (dropCode r s).pins = s.pins ∧
    (dropCode r s).now = s.now ∧
    (dropCode r s).comm = s.comm ∧
    (dropCode r s).psv = s.psv ∧
    (dropCode r s).miu = s.miu ∧
    (dropCode r s).ace = s.ace ∧
    (dropCode r s).ctu = s.ctu ∧
    (dropCode r s).ssc = s.ssc ∧
    (dropCode r s).tmn = s.tmn ∧
    (dropCode r s).stc = s.stc ∧
    (dropCode r s).pending = s.pending := by
  simp [dropCode]

@[simp] theorem cutWrite_frame (written : Bool) (s : State) :
    (cutWrite written s).pins = s.pins ∧
    (cutWrite written s).now = s.now ∧
    (cutWrite written s).comm = s.comm ∧
    (cutWrite written s).psv = s.psv ∧
    (cutWrite written s).miu = s.miu ∧
    (cutWrite written s).ace = s.ace ∧
    (cutWrite written s).ctu = s.ctu ∧
    (cutWrite written s).cru = s.cru ∧
    (cutWrite written s).ssc = s.ssc ∧
    (cutWrite written s).tmn = s.tmn ∧
    (cutWrite written s).lkp = s.lkp ∧
    (cutWrite written s).pending = s.pending := by
  unfold cutWrite
  repeat' split
  all_goals simp

@[simp] theorem checkpointGood_frame (slot : Nat) (c : Checkpoint) (s : State) :
    (checkpointGood slot c s).pins = s.pins ∧
    (checkpointGood slot c s).now = s.now ∧
    (checkpointGood slot c s).comm = s.comm ∧
    (checkpointGood slot c s).psv = s.psv ∧
    (checkpointGood slot c s).miu = s.miu ∧
    (checkpointGood slot c s).ace = s.ace ∧
    (checkpointGood slot c s).ctu = s.ctu ∧
    (checkpointGood slot c s).cru = s.cru ∧
    (checkpointGood slot c s).ssc = s.ssc ∧
    (checkpointGood slot c s).tmn = s.tmn ∧
    (checkpointGood slot c s).lkp = s.lkp ∧
    (checkpointGood slot c s).pending = s.pending := by
  simp [checkpointGood]

@[simp] theorem journalGood_frame (slot : Nat) (e : JournalEntry) (s : State) :
    (journalGood slot e s).pins = s.pins ∧
    (journalGood slot e s).now = s.now ∧
    (journalGood slot e s).comm = s.comm ∧
    (journalGood slot e s).psv = s.psv ∧
    (journalGood slot e s).miu = s.miu ∧
    (journalGood slot e s).ace = s.ace ∧
    (journalGood slot e s).ctu = s.ctu ∧
    (journalGood slot e s).cru = s.cru ∧
    (journalGood slot e s).ssc = s.ssc ∧
    (journalGood slot e s).tmn = s.tmn ∧
    (journalGood slot e s).lkp = s.lkp ∧
    (journalGood slot e s).pending = s.pending := by
  unfold journalGood
  dsimp only
  repeat' split
  all_goals simp

@[simp] theorem refuseStore_frame (e : JournalEntry) (s : State) :
    (refuseStore e s).pins = s.pins ∧
    (refuseStore e s).now = s.now ∧
    (refuseStore e s).comm = s.comm ∧
    (refuseStore e s).psv = s.psv ∧
    (refuseStore e s).miu = s.miu ∧
    (refuseStore e s).ace = s.ace ∧
    (refuseStore e s).ctu = s.ctu ∧
    (refuseStore e s).ssc = s.ssc ∧
    (refuseStore e s).tmn = s.tmn ∧
    (refuseStore e s).stc = s.stc ∧
    (refuseStore e s).pending = s.pending := by
  simp [refuseStore]

@[simp] theorem setPower_frame (p : Power) (s : State) :
    (setPower p s).pins = s.pins ∧
    (setPower p s).now = s.now ∧
    (setPower p s).comm = s.comm ∧
    (setPower p s).miu = s.miu ∧
    (setPower p s).ace = s.ace ∧
    (setPower p s).ctu = s.ctu ∧
    (setPower p s).cru = s.cru ∧
    (setPower p s).ssc = s.ssc ∧
    (setPower p s).tmn = s.tmn ∧
    (setPower p s).stc = s.stc ∧
    (setPower p s).lkp = s.lkp ∧
    (setPower p s).pending = s.pending := by
  simp [setPower]

@[simp] theorem blankBlocks_frame (s : State) :
    (blankBlocks s).pins = s.pins ∧
    (blankBlocks s).now = s.now ∧
    (blankBlocks s).comm = s.comm ∧
    (blankBlocks s).psv = s.psv ∧
    (blankBlocks s).miu = s.miu ∧
    (blankBlocks s).tmn = s.tmn ∧
    (blankBlocks s).stc = s.stc ∧
    (blankBlocks s).lkp = s.lkp ∧
    (blankBlocks s).pending = s.pending := by
  simp [blankBlocks]

@[simp] theorem clearViews_frame (s : State) :
    (clearViews s).pins = s.pins ∧
    (clearViews s).now = s.now ∧
    (clearViews s).comm = s.comm ∧
    (clearViews s).psv = s.psv ∧
    (clearViews s).miu = s.miu ∧
    (clearViews s).ace = s.ace ∧
    (clearViews s).ctu = s.ctu ∧
    (clearViews s).cru = s.cru ∧
    (clearViews s).ssc = s.ssc ∧
    (clearViews s).stc = s.stc ∧
    (clearViews s).lkp = s.lkp ∧
    (clearViews s).pending = s.pending := by
  simp [clearViews]

@[simp] theorem dropInvalidRam_frame (s : State) :
    (dropInvalidRam s).pins = s.pins ∧
    (dropInvalidRam s).now = s.now ∧
    (dropInvalidRam s).comm = s.comm ∧
    (dropInvalidRam s).psv = s.psv ∧
    (dropInvalidRam s).miu = s.miu ∧
    (dropInvalidRam s).ace = s.ace ∧
    (dropInvalidRam s).cru = s.cru ∧
    (dropInvalidRam s).ssc = s.ssc ∧
    (dropInvalidRam s).stc = s.stc ∧
    (dropInvalidRam s).lkp = s.lkp ∧
    (dropInvalidRam s).pending = s.pending := by
  unfold dropInvalidRam
  dsimp only
  repeat' split
  all_goals simp

@[simp] theorem enterBattery_frame (s : State) :
    (enterBattery s).pins = s.pins ∧
    (enterBattery s).now = s.now ∧
    (enterBattery s).comm = s.comm ∧
    (enterBattery s).pending = s.pending := by
  simp [enterBattery]

@[simp] theorem enterOff_frame (s : State) :
    (enterOff s).pins = s.pins ∧
    (enterOff s).now = s.now ∧
    (enterOff s).pending = s.pending := by
  simp [enterOff]

@[simp] theorem loseMains_frame (s : State) :
    (loseMains s).pins = s.pins ∧
    (loseMains s).now = s.now ∧
    (loseMains s).pending = s.pending := by
  unfold loseMains
  repeat' split
  all_goals simp

@[simp] theorem beginStartup_frame (kind : StartKind) (stable hl hr : Nat) (s : State) :
    (beginStartup kind stable hl hr s).pins = s.pins ∧
    (beginStartup kind stable hl hr s).comm = s.comm ∧
    (beginStartup kind stable hl hr s).stc = s.stc ∧
    (beginStartup kind stable hl hr s).pending = s.pending := by
  simp [beginStartup]

@[simp] theorem leaveHoldup_frame (s : State) :
    (leaveHoldup s).pins = s.pins ∧
    (leaveHoldup s).pending = s.pending := by
  unfold leaveHoldup
  repeat' split
  all_goals simp

@[simp] theorem withdrawJournal_frame (s : State) :
    (withdrawJournal s).pins = s.pins ∧
    (withdrawJournal s).now = s.now ∧
    (withdrawJournal s).comm = s.comm ∧
    (withdrawJournal s).psv = s.psv ∧
    (withdrawJournal s).miu = s.miu ∧
    (withdrawJournal s).ace = s.ace ∧
    (withdrawJournal s).ctu = s.ctu ∧
    (withdrawJournal s).ssc = s.ssc ∧
    (withdrawJournal s).tmn = s.tmn ∧
    (withdrawJournal s).pending = s.pending := by
  unfold withdrawJournal
  dsimp only
  repeat' split
  all_goals simp

@[simp] theorem enterHoldup_frame (s : State) :
    (enterHoldup s).pins = s.pins ∧
    (enterHoldup s).pending = s.pending := by
  unfold enterHoldup
  dsimp only
  repeat' split
  all_goals simp

@[simp] theorem failInStartup_frame (written : Bool) (s : State) :
    (failInStartup written s).pins = s.pins ∧
    (failInStartup written s).now = s.now ∧
    (failInStartup written s).pending = s.pending := by
  simp [failInStartup]

@[simp] theorem setMainsPin_frame (x : Bool) (s : State) :
    (setMainsPin x s).now = s.now ∧
    (setMainsPin x s).comm = s.comm ∧
    (setMainsPin x s).miu = s.miu ∧
    (setMainsPin x s).ace = s.ace ∧
    (setMainsPin x s).ctu = s.ctu ∧
    (setMainsPin x s).cru = s.cru ∧
    (setMainsPin x s).ssc = s.ssc ∧
    (setMainsPin x s).tmn = s.tmn ∧
    (setMainsPin x s).stc = s.stc ∧
    (setMainsPin x s).lkp = s.lkp ∧
    (setMainsPin x s).pending = s.pending := by
  unfold setMainsPin
  dsimp only
  repeat' split
  all_goals simp

@[simp] theorem mainsFalls_frame (written : Bool) (s : State) :
    (mainsFalls written s).pending = s.pending := by
  unfold mainsFalls
  dsimp only
  repeat' split
  all_goals simp

@[simp] theorem restartSteps_frame (kind : StartKind) (s : State) :
    (restartSteps kind s).pins = s.pins ∧
    (restartSteps kind s).comm = s.comm ∧
    (restartSteps kind s).pending = s.pending := by
  unfold restartSteps
  dsimp only
  repeat' split
  all_goals simp

@[simp] theorem saveEnds_frame (s : State) :
    (saveEnds s).pins = s.pins ∧
    (saveEnds s).pending = s.pending := by
  simp [saveEnds]

@[simp] theorem saveFails_frame (s : State) :
    (saveFails s).pins = s.pins ∧
    (saveFails s).pending = s.pending := by
  simp [saveFails]

@[simp] theorem takeSave_frame (s : State) :
    (takeSave s).pins = s.pins ∧
    (takeSave s).pending = s.pending := by
  unfold takeSave
  dsimp only
  repeat' split
  all_goals simp

@[simp] theorem takeJournal_frame (s : State) :
    (takeJournal s).pins = s.pins ∧
    (takeJournal s).now = s.now ∧
    (takeJournal s).comm = s.comm ∧
    (takeJournal s).psv = s.psv ∧
    (takeJournal s).miu = s.miu ∧
    (takeJournal s).ace = s.ace ∧
    (takeJournal s).ctu = s.ctu ∧
    (takeJournal s).ssc = s.ssc ∧
    (takeJournal s).tmn = s.tmn ∧
    (takeJournal s).pending = s.pending := by
  unfold takeJournal
  dsimp only
  repeat' split
  all_goals simp

@[simp] theorem takeCheckpoint_frame (s : State) :
    (takeCheckpoint s).pins = s.pins ∧
    (takeCheckpoint s).now = s.now ∧
    (takeCheckpoint s).comm = s.comm ∧
    (takeCheckpoint s).psv = s.psv ∧
    (takeCheckpoint s).miu = s.miu ∧
    (takeCheckpoint s).ace = s.ace ∧
    (takeCheckpoint s).ctu = s.ctu ∧
    (takeCheckpoint s).cru = s.cru ∧
    (takeCheckpoint s).ssc = s.ssc ∧
    (takeCheckpoint s).tmn = s.tmn ∧
    (takeCheckpoint s).pending = s.pending := by
  unfold takeCheckpoint
  dsimp only
  repeat' split
  all_goals simp

@[simp] theorem arbitrate_frame (s : State) :
    (arbitrate s).pins = s.pins ∧
    (arbitrate s).pending = s.pending := by
  simp [arbitrate]

@[simp] theorem writeFails_frame (job : WriteJob) (s : State) :
    (writeFails job s).pins = s.pins ∧
    (writeFails job s).pending = s.pending := by
  unfold writeFails
  dsimp only
  repeat' split
  all_goals simp

@[simp] theorem writeBad_frame (w : Write) (s : State) :
    (writeBad w s).pins = s.pins ∧
    (writeBad w s).pending = s.pending := by
  unfold writeBad
  dsimp only
  repeat' split
  all_goals simp

end Sys2Proof.Machine
end

