-- ==== Sys2Proof/Laws/FrameCodes.lean ====
section
/-! SUPPORT. What CRU's shared operations leave unchanged, one lemma per operation. -/

namespace Sys2Proof.Machine

@[simp] theorem creditEffect_frame (amount : Nat) (s : State) :
    (creditEffect amount s).1.pins = s.pins ∧
    (creditEffect amount s).1.now = s.now ∧
    (creditEffect amount s).1.comm = s.comm ∧
    (creditEffect amount s).1.psv = s.psv ∧
    (creditEffect amount s).1.ctu = s.ctu ∧
    (creditEffect amount s).1.cru = s.cru ∧
    (creditEffect amount s).1.pending = s.pending := by
  simp [creditEffect]

@[simp] theorem limitEffect_frame (which value : Nat) (s : State) :
    (limitEffect which value s).1.pins = s.pins ∧
    (limitEffect which value s).1.now = s.now ∧
    (limitEffect which value s).1.comm = s.comm ∧
    (limitEffect which value s).1.psv = s.psv ∧
    (limitEffect which value s).1.ctu = s.ctu ∧
    (limitEffect which value s).1.cru = s.cru ∧
    (limitEffect which value s).1.tmn = s.tmn ∧
    (limitEffect which value s).1.stc = s.stc ∧
    (limitEffect which value s).1.pending = s.pending := by
  unfold limitEffect
  dsimp only
  repeat' split
  all_goals simp

@[simp] theorem debtEffect_frame (share units : Nat) (s : State) :
    (debtEffect share units s).1.pins = s.pins ∧
    (debtEffect share units s).1.now = s.now ∧
    (debtEffect share units s).1.comm = s.comm ∧
    (debtEffect share units s).1.psv = s.psv ∧
    (debtEffect share units s).1.miu = s.miu ∧
    (debtEffect share units s).1.ctu = s.ctu ∧
    (debtEffect share units s).1.cru = s.cru ∧
    (debtEffect share units s).1.ssc = s.ssc ∧
    (debtEffect share units s).1.tmn = s.tmn ∧
    (debtEffect share units s).1.stc = s.stc ∧
    (debtEffect share units s).1.lkp = s.lkp ∧
    (debtEffect share units s).1.pending = s.pending := by
  simp [debtEffect]

@[simp] theorem editEffect_frame (a : CodeAction) (s : State) :
    (editEffect a s).1.pins = s.pins ∧
    (editEffect a s).1.now = s.now ∧
    (editEffect a s).1.comm = s.comm ∧
    (editEffect a s).1.psv = s.psv ∧
    (editEffect a s).1.miu = s.miu ∧
    (editEffect a s).1.ace = s.ace ∧
    (editEffect a s).1.cru = s.cru ∧
    (editEffect a s).1.ssc = s.ssc ∧
    (editEffect a s).1.tmn = s.tmn ∧
    (editEffect a s).1.stc = s.stc ∧
    (editEffect a s).1.lkp = s.lkp ∧
    (editEffect a s).1.pending = s.pending := by
  simp [editEffect]

@[simp] theorem activateEffect_frame (day : Nat) (recorded : Stamp) (s : State) :
    (activateEffect day recorded s).1.pins = s.pins ∧
    (activateEffect day recorded s).1.now = s.now ∧
    (activateEffect day recorded s).1.comm = s.comm ∧
    (activateEffect day recorded s).1.psv = s.psv ∧
    (activateEffect day recorded s).1.miu = s.miu ∧
    (activateEffect day recorded s).1.ace = s.ace ∧
    (activateEffect day recorded s).1.cru = s.cru ∧
    (activateEffect day recorded s).1.ssc = s.ssc ∧
    (activateEffect day recorded s).1.tmn = s.tmn ∧
    (activateEffect day recorded s).1.stc = s.stc ∧
    (activateEffect day recorded s).1.lkp = s.lkp ∧
    (activateEffect day recorded s).1.pending = s.pending := by
  simp [activateEffect]

@[simp] theorem clockEffect_frame (secs : Nat) (s : State) :
    (clockEffect secs s).1.pins = s.pins ∧
    (clockEffect secs s).1.now = s.now ∧
    (clockEffect secs s).1.comm = s.comm ∧
    (clockEffect secs s).1.psv = s.psv ∧
    (clockEffect secs s).1.cru = s.cru ∧
    (clockEffect secs s).1.pending = s.pending := by
  simp [clockEffect]

@[simp] theorem tamperClearEffect_frame (kinds : BitVec 8) (time : Stamp) (s : State) :
    (tamperClearEffect kinds time s).1.pins = s.pins ∧
    (tamperClearEffect kinds time s).1.now = s.now ∧
    (tamperClearEffect kinds time s).1.comm = s.comm ∧
    (tamperClearEffect kinds time s).1.psv = s.psv ∧
    (tamperClearEffect kinds time s).1.ace = s.ace ∧
    (tamperClearEffect kinds time s).1.ctu = s.ctu ∧
    (tamperClearEffect kinds time s).1.cru = s.cru ∧
    (tamperClearEffect kinds time s).1.pending = s.pending := by
  simp [tamperClearEffect]

@[simp] theorem policyEffect_frame (k : TamperKind) (p : Policy) (s : State) :
    (policyEffect k p s).1.pins = s.pins ∧
    (policyEffect k p s).1.now = s.now ∧
    (policyEffect k p s).1.comm = s.comm ∧
    (policyEffect k p s).1.psv = s.psv ∧
    (policyEffect k p s).1.ace = s.ace ∧
    (policyEffect k p s).1.ctu = s.ctu ∧
    (policyEffect k p s).1.cru = s.cru ∧
    (policyEffect k p s).1.pending = s.pending := by
  simp [policyEffect]

@[simp] theorem keyHiEffect_frame (half : BitVec 32) (s : State) :
    (keyHiEffect half s).1.pins = s.pins ∧
    (keyHiEffect half s).1.now = s.now ∧
    (keyHiEffect half s).1.comm = s.comm ∧
    (keyHiEffect half s).1.psv = s.psv ∧
    (keyHiEffect half s).1.miu = s.miu ∧
    (keyHiEffect half s).1.ace = s.ace ∧
    (keyHiEffect half s).1.ctu = s.ctu ∧
    (keyHiEffect half s).1.ssc = s.ssc ∧
    (keyHiEffect half s).1.tmn = s.tmn ∧
    (keyHiEffect half s).1.stc = s.stc ∧
    (keyHiEffect half s).1.lkp = s.lkp ∧
    (keyHiEffect half s).1.pending = s.pending := by
  simp [keyHiEffect]

@[simp] theorem keyLoEffect_frame (half : BitVec 32) (time : Stamp) (s : State) :
    (keyLoEffect half time s).1.pins = s.pins ∧
    (keyLoEffect half time s).1.now = s.now ∧
    (keyLoEffect half time s).1.comm = s.comm ∧
    (keyLoEffect half time s).1.psv = s.psv ∧
    (keyLoEffect half time s).1.miu = s.miu ∧
    (keyLoEffect half time s).1.ace = s.ace ∧
    (keyLoEffect half time s).1.ctu = s.ctu ∧
    (keyLoEffect half time s).1.ssc = s.ssc ∧
    (keyLoEffect half time s).1.lkp = s.lkp ∧
    (keyLoEffect half time s).1.pending = s.pending := by
  unfold keyLoEffect
  split <;> simp

@[simp] theorem supplyEffect_frame (release : Bool) (s : State) :
    (supplyEffect release s).1.pins = s.pins ∧
    (supplyEffect release s).1.now = s.now ∧
    (supplyEffect release s).1.comm = s.comm ∧
    (supplyEffect release s).1.psv = s.psv ∧
    (supplyEffect release s).1.ace = s.ace ∧
    (supplyEffect release s).1.ctu = s.ctu ∧
    (supplyEffect release s).1.cru = s.cru ∧
    (supplyEffect release s).1.pending = s.pending := by
  simp [supplyEffect]

@[simp] theorem applyAction_frame (time recorded : Stamp) (a : CodeAction) (s : State) :
    (applyAction time recorded a s).1.pins = s.pins ∧
    (applyAction time recorded a s).1.now = s.now ∧
    (applyAction time recorded a s).1.comm = s.comm ∧
    (applyAction time recorded a s).1.psv = s.psv ∧
    (applyAction time recorded a s).1.pending = s.pending := by
  unfold applyAction
  repeat' split
  all_goals simp

@[simp] theorem entryEffect_frame (time : Stamp) (e : JournalEntry) (s : State) :
    (entryEffect time e s).1.pins = s.pins ∧
    (entryEffect time e s).1.now = s.now ∧
    (entryEffect time e s).1.comm = s.comm ∧
    (entryEffect time e s).1.psv = s.psv ∧
    (entryEffect time e s).1.pending = s.pending := by
  unfold entryEffect
  repeat' split
  all_goals simp

@[simp] theorem commitEntry_frame (e : JournalEntry) (s : State) :
    (commitEntry e s).pins = s.pins ∧
    (commitEntry e s).now = s.now ∧
    (commitEntry e s).comm = s.comm ∧
    (commitEntry e s).pending = s.pending := by
  simp [commitEntry]

@[simp] theorem commitAs_frame (cls : Nat) (s : State) :
    (commitAs cls s).pins = s.pins ∧
    (commitAs cls s).now = s.now ∧
    (commitAs cls s).comm = s.comm ∧
    (commitAs cls s).pending = s.pending := by
  unfold commitAs
  repeat' split
  all_goals simp

@[simp] theorem beginLockout_frame (s : State) :
    (beginLockout s).pins = s.pins ∧
    (beginLockout s).now = s.now ∧
    (beginLockout s).comm = s.comm ∧
    (beginLockout s).psv = s.psv ∧
    (beginLockout s).ace = s.ace ∧
    (beginLockout s).ctu = s.ctu ∧
    (beginLockout s).pending = s.pending := by
  simp [beginLockout]

@[simp] theorem stepRun_frame (s : State) :
    (stepRun s).pins = s.pins ∧
    (stepRun s).now = s.now ∧
    (stepRun s).comm = s.comm ∧
    (stepRun s).psv = s.psv ∧
    (stepRun s).ace = s.ace ∧
    (stepRun s).ctu = s.ctu ∧
    (stepRun s).pending = s.pending := by
  unfold stepRun
  repeat' split
  all_goals simp

@[simp] theorem acceptCode_frame (p : PlainCode) (s : State) :
    (acceptCode p s).pins = s.pins ∧
    (acceptCode p s).now = s.now ∧
    (acceptCode p s).comm = s.comm ∧
    (acceptCode p s).psv = s.psv ∧
    (acceptCode p s).miu = s.miu ∧
    (acceptCode p s).ace = s.ace ∧
    (acceptCode p s).ctu = s.ctu ∧
    (acceptCode p s).ssc = s.ssc ∧
    (acceptCode p s).tmn = s.tmn ∧
    (acceptCode p s).pending = s.pending := by
  simp [acceptCode]

@[simp] theorem takeSubmit_frame (payload : List Byte) (s : State) :
    (takeSubmit payload s).pins = s.pins ∧
    (takeSubmit payload s).now = s.now ∧
    (takeSubmit payload s).comm = s.comm ∧
    (takeSubmit payload s).psv = s.psv ∧
    (takeSubmit payload s).ace = s.ace ∧
    (takeSubmit payload s).ctu = s.ctu ∧
    (takeSubmit payload s).pending = s.pending := by
  unfold takeSubmit
  repeat' split
  all_goals simp

@[simp] theorem endLockout_frame (s : State) :
    (endLockout s).pins = s.pins ∧
    (endLockout s).now = s.now ∧
    (endLockout s).comm = s.comm ∧
    (endLockout s).psv = s.psv ∧
    (endLockout s).ace = s.ace ∧
    (endLockout s).ctu = s.ctu ∧
    (endLockout s).pending = s.pending := by
  simp [endLockout]

end Sys2Proof.Machine
end

