-- ==== Sys2Proof/Laws/FrameStart.lean ====
section
/-! SUPPORT. What the start-up steps leave unchanged, one lemma per operation. -/

namespace Sys2Proof.Machine

@[simp] theorem takeContent_frame (slot : Nat) (c : Checkpoint) (run : List JournalEntry) (s : State) :
    (takeContent slot c run s).pins = s.pins ∧
    (takeContent slot c run s).now = s.now ∧
    (takeContent slot c run s).psv = s.psv ∧
    (takeContent slot c run s).lkp = s.lkp ∧
    (takeContent slot c run s).pending = s.pending := by
  simp [takeContent]

@[simp] theorem takeFactory_frame (s : State) :
    (takeFactory s).pins = s.pins ∧
    (takeFactory s).now = s.now ∧
    (takeFactory s).psv = s.psv ∧
    (takeFactory s).lkp = s.lkp ∧
    (takeFactory s).pending = s.pending := by
  simp [takeFactory]

@[simp] theorem replayCheck_frame (e : JournalEntry) (s : State) :
    (replayCheck e s).pins = s.pins ∧
    (replayCheck e s).now = s.now ∧
    (replayCheck e s).comm = s.comm ∧
    (replayCheck e s).psv = s.psv ∧
    (replayCheck e s).ace = s.ace ∧
    (replayCheck e s).cru = s.cru ∧
    (replayCheck e s).pending = s.pending := by
  unfold replayCheck
  repeat' split
  all_goals simp

@[simp] theorem replayEntry_frame (s : State) (e : JournalEntry) :
    (replayEntry s e).pins = s.pins ∧
    (replayEntry s e).now = s.now ∧
    (replayEntry s e).comm = s.comm ∧
    (replayEntry s e).psv = s.psv ∧
    (replayEntry s e).pending = s.pending := by
  simp [replayEntry]

@[simp] theorem fillBatteryRam_frame (kind : StartKind) (bank : Tmn) (s : State) :
    (fillBatteryRam kind bank s).pins = s.pins ∧
    (fillBatteryRam kind bank s).now = s.now ∧
    (fillBatteryRam kind bank s).comm = s.comm ∧
    (fillBatteryRam kind bank s).miu = s.miu ∧
    (fillBatteryRam kind bank s).ace = s.ace ∧
    (fillBatteryRam kind bank s).cru = s.cru ∧
    (fillBatteryRam kind bank s).ssc = s.ssc ∧
    (fillBatteryRam kind bank s).stc = s.stc ∧
    (fillBatteryRam kind bank s).lkp = s.lkp ∧
    (fillBatteryRam kind bank s).pending = s.pending := by
  unfold fillBatteryRam
  dsimp only
  repeat' split
  all_goals simp

@[simp] theorem endStepTwo_frame (kind : StartKind) (bank : Tmn) (s : State) :
    (endStepTwo kind bank s).pins = s.pins ∧
    (endStepTwo kind bank s).now = s.now ∧
    (endStepTwo kind bank s).comm = s.comm ∧
    (endStepTwo kind bank s).cru = s.cru ∧
    (endStepTwo kind bank s).pending = s.pending := by
  unfold endStepTwo
  dsimp only
  repeat' split
  all_goals simp

@[simp] theorem foldl_replayEntry_frame (l : List JournalEntry) (s : State) :
    (l.foldl replayEntry s).pins = s.pins ∧
    (l.foldl replayEntry s).now = s.now ∧
    (l.foldl replayEntry s).comm = s.comm ∧
    (l.foldl replayEntry s).psv = s.psv ∧
    (l.foldl replayEntry s).pending = s.pending := by
  induction l generalizing s with
  | nil => simp
  | cons x l ih => simp [List.foldl_cons, ih]

@[simp] theorem stepTwo_frame (kind : StartKind) (s : State) :
    (stepTwo kind s).pins = s.pins ∧
    (stepTwo kind s).now = s.now ∧
    (stepTwo kind s).pending = s.pending := by
  unfold stepTwo
  dsimp only
  repeat' split
  all_goals simp

@[simp] theorem takeUpEntry_frame (s : State) (e : JournalEntry) :
    (takeUpEntry s e).pins = s.pins ∧
    (takeUpEntry s e).now = s.now ∧
    (takeUpEntry s e).comm = s.comm ∧
    (takeUpEntry s e).psv = s.psv ∧
    (takeUpEntry s e).miu = s.miu ∧
    (takeUpEntry s e).ace = s.ace ∧
    (takeUpEntry s e).cru = s.cru ∧
    (takeUpEntry s e).ssc = s.ssc ∧
    (takeUpEntry s e).stc = s.stc ∧
    (takeUpEntry s e).lkp = s.lkp ∧
    (takeUpEntry s e).pending = s.pending := by
  unfold takeUpEntry
  dsimp only
  repeat' split
  all_goals simp

@[simp] theorem foldl_takeUpEntry_frame (l : List JournalEntry) (s : State) :
    (l.foldl takeUpEntry s).pins = s.pins ∧
    (l.foldl takeUpEntry s).now = s.now ∧
    (l.foldl takeUpEntry s).comm = s.comm ∧
    (l.foldl takeUpEntry s).psv = s.psv ∧
    (l.foldl takeUpEntry s).miu = s.miu ∧
    (l.foldl takeUpEntry s).ace = s.ace ∧
    (l.foldl takeUpEntry s).cru = s.cru ∧
    (l.foldl takeUpEntry s).ssc = s.ssc ∧
    (l.foldl takeUpEntry s).stc = s.stc ∧
    (l.foldl takeUpEntry s).lkp = s.lkp ∧
    (l.foldl takeUpEntry s).pending = s.pending := by
  induction l generalizing s with
  | nil => simp
  | cons x l ih => simp [List.foldl_cons, ih]

@[simp] theorem overlay_frame (kind : StartKind) (s : State) :
    (overlay kind s).pins = s.pins ∧
    (overlay kind s).now = s.now ∧
    (overlay kind s).comm = s.comm ∧
    (overlay kind s).miu = s.miu ∧
    (overlay kind s).ace = s.ace ∧
    (overlay kind s).cru = s.cru ∧
    (overlay kind s).ssc = s.ssc ∧
    (overlay kind s).stc = s.stc ∧
    (overlay kind s).lkp = s.lkp ∧
    (overlay kind s).pending = s.pending := by
  unfold overlay
  dsimp only
  repeat' split
  all_goals simp

@[simp] theorem reconcileKind_frame (s : State) (k : TamperKind) :
    (reconcileKind s k).pins = s.pins ∧
    (reconcileKind s k).now = s.now ∧
    (reconcileKind s k).comm = s.comm ∧
    (reconcileKind s k).psv = s.psv ∧
    (reconcileKind s k).miu = s.miu ∧
    (reconcileKind s k).ace = s.ace ∧
    (reconcileKind s k).ctu = s.ctu ∧
    (reconcileKind s k).cru = s.cru ∧
    (reconcileKind s k).ssc = s.ssc ∧
    (reconcileKind s k).pending = s.pending := by
  unfold reconcileKind
  dsimp only
  repeat' split
  all_goals simp

@[simp] theorem foldl_reconcileKind_frame (l : List TamperKind) (s : State) :
    (l.foldl reconcileKind s).pins = s.pins ∧
    (l.foldl reconcileKind s).now = s.now ∧
    (l.foldl reconcileKind s).comm = s.comm ∧
    (l.foldl reconcileKind s).psv = s.psv ∧
    (l.foldl reconcileKind s).miu = s.miu ∧
    (l.foldl reconcileKind s).ace = s.ace ∧
    (l.foldl reconcileKind s).ctu = s.ctu ∧
    (l.foldl reconcileKind s).cru = s.cru ∧
    (l.foldl reconcileKind s).ssc = s.ssc ∧
    (l.foldl reconcileKind s).pending = s.pending := by
  induction l generalizing s with
  | nil => simp
  | cons x l ih => simp [List.foldl_cons, ih]

@[simp] theorem reconcile_frame (s : State) :
    (reconcile s).pins = s.pins ∧
    (reconcile s).now = s.now ∧
    (reconcile s).comm = s.comm ∧
    (reconcile s).psv = s.psv ∧
    (reconcile s).ace = s.ace ∧
    (reconcile s).ctu = s.ctu ∧
    (reconcile s).cru = s.cru ∧
    (reconcile s).pending = s.pending := by
  unfold reconcile
  dsimp only
  repeat' split
  all_goals simp

@[simp] theorem stepThree_frame (kind : StartKind) (s : State) :
    (stepThree kind s).pins = s.pins ∧
    (stepThree kind s).now = s.now ∧
    (stepThree kind s).comm = s.comm ∧
    (stepThree kind s).cru = s.cru ∧
    (stepThree kind s).pending = s.pending := by
  simp [stepThree]

@[simp] theorem judgeRestored_frame (s : State) :
    (judgeRestored s).pins = s.pins ∧
    (judgeRestored s).now = s.now ∧
    (judgeRestored s).comm = s.comm ∧
    (judgeRestored s).psv = s.psv ∧
    (judgeRestored s).ace = s.ace ∧
    (judgeRestored s).ctu = s.ctu ∧
    (judgeRestored s).cru = s.cru ∧
    (judgeRestored s).pending = s.pending := by
  unfold judgeRestored
  repeat' split
  all_goals simp

@[simp] theorem compareContactor_frame (present : Bool) (s : State) :
    (compareContactor present s).pins = s.pins ∧
    (compareContactor present s).now = s.now ∧
    (compareContactor present s).comm = s.comm ∧
    (compareContactor present s).psv = s.psv ∧
    (compareContactor present s).ace = s.ace ∧
    (compareContactor present s).ctu = s.ctu ∧
    (compareContactor present s).cru = s.cru ∧
    (compareContactor present s).pending = s.pending := by
  unfold compareContactor
  repeat' split
  all_goals simp

@[simp] theorem releaseHeld_frame (s : State) :
    (releaseHeld s).pins = s.pins ∧
    (releaseHeld s).now = s.now ∧
    (releaseHeld s).comm = s.comm ∧
    (releaseHeld s).psv = s.psv ∧
    (releaseHeld s).ctu = s.ctu ∧
    (releaseHeld s).cru = s.cru ∧
    (releaseHeld s).pending = s.pending := by
  unfold releaseHeld
  dsimp only
  repeat' split
  all_goals simp

@[simp] theorem beginSsc_frame (s : State) :
    (beginSsc s).pins = s.pins ∧
    (beginSsc s).now = s.now ∧
    (beginSsc s).comm = s.comm ∧
    (beginSsc s).psv = s.psv ∧
    (beginSsc s).miu = s.miu ∧
    (beginSsc s).ace = s.ace ∧
    (beginSsc s).ctu = s.ctu ∧
    (beginSsc s).cru = s.cru ∧
    (beginSsc s).tmn = s.tmn ∧
    (beginSsc s).stc = s.stc ∧
    (beginSsc s).lkp = s.lkp ∧
    (beginSsc s).pending = s.pending := by
  unfold beginSsc
  dsimp only
  repeat' split
  all_goals simp

@[simp] theorem markIf_frame (c : Bool) (a : Alert) (s : State) :
    (markIf c a s).pins = s.pins ∧
    (markIf c a s).now = s.now ∧
    (markIf c a s).comm = s.comm ∧
    (markIf c a s).psv = s.psv ∧
    (markIf c a s).miu = s.miu ∧
    (markIf c a s).ace = s.ace ∧
    (markIf c a s).ctu = s.ctu ∧
    (markIf c a s).cru = s.cru ∧
    (markIf c a s).ssc = s.ssc ∧
    (markIf c a s).tmn = s.tmn ∧
    (markIf c a s).stc = s.stc ∧
    (markIf c a s).pending = s.pending := by
  unfold markIf
  repeat' split
  all_goals simp

@[simp] theorem startAlerts_frame (s : State) :
    (startAlerts s).pins = s.pins ∧
    (startAlerts s).now = s.now ∧
    (startAlerts s).comm = s.comm ∧
    (startAlerts s).psv = s.psv ∧
    (startAlerts s).miu = s.miu ∧
    (startAlerts s).ace = s.ace ∧
    (startAlerts s).cru = s.cru ∧
    (startAlerts s).ssc = s.ssc ∧
    (startAlerts s).tmn = s.tmn ∧
    (startAlerts s).stc = s.stc ∧
    (startAlerts s).pending = s.pending := by
  simp [startAlerts]

@[simp] theorem enterRun_frame (kind : StartKind) (s : State) :
    (enterRun kind s).pins = s.pins ∧
    (enterRun kind s).now = s.now ∧
    (enterRun kind s).comm = s.comm ∧
    (enterRun kind s).cru = s.cru ∧
    (enterRun kind s).pending = s.pending := by
  unfold enterRun
  dsimp only
  repeat' split
  all_goals simp

@[simp] theorem endStepFour_frame (s : State) :
    (endStepFour s).pins = s.pins ∧
    (endStepFour s).pending = s.pending := by
  unfold endStepFour
  repeat' split
  all_goals simp

@[simp] theorem runSteps_frame (s : State) :
    (runSteps s).pins = s.pins ∧
    (runSteps s).pending = s.pending := by
  unfold runSteps
  dsimp only
  repeat' split
  all_goals simp

@[simp] theorem resumeSteps_frame (s : State) :
    (resumeSteps s).pins = s.pins ∧
    (resumeSteps s).pending = s.pending := by
  unfold resumeSteps
  repeat' split
  all_goals simp

@[simp] theorem startFromBattery_frame (s : State) :
    (startFromBattery s).pins = s.pins ∧
    (startFromBattery s).pending = s.pending := by
  unfold startFromBattery
  repeat' split
  all_goals simp

end Sys2Proof.Machine
end

