-- ==== Sys2Proof/Laws/FrameLink.lean ====
section
/-! SUPPORT. What LKP's shared operations leave unchanged, one lemma per operation. -/

namespace Sys2Proof.Machine

@[simp] theorem answer_frame (st : Status) (type : Nat) (payload : List Byte) (s : State) :
    (answer st type payload s).pins = s.pins ∧
    (answer st type payload s).now = s.now ∧
    (answer st type payload s).comm = s.comm ∧
    (answer st type payload s).psv = s.psv ∧
    (answer st type payload s).miu = s.miu ∧
    (answer st type payload s).ace = s.ace ∧
    (answer st type payload s).ctu = s.ctu ∧
    (answer st type payload s).cru = s.cru ∧
    (answer st type payload s).ssc = s.ssc ∧
    (answer st type payload s).tmn = s.tmn ∧
    (answer st type payload s).stc = s.stc ∧
    (answer st type payload s).pending = s.pending := by
  simp [answer]

@[simp] theorem answerIdent_frame (s : State) :
    (answerIdent s).pins = s.pins ∧
    (answerIdent s).now = s.now ∧
    (answerIdent s).comm = s.comm ∧
    (answerIdent s).psv = s.psv ∧
    (answerIdent s).miu = s.miu ∧
    (answerIdent s).ace = s.ace ∧
    (answerIdent s).ctu = s.ctu ∧
    (answerIdent s).cru = s.cru ∧
    (answerIdent s).ssc = s.ssc ∧
    (answerIdent s).tmn = s.tmn ∧
    (answerIdent s).stc = s.stc ∧
    (answerIdent s).pending = s.pending := by
  simp [answerIdent]

@[simp] theorem answerSnapshot_frame (s : State) :
    (answerSnapshot s).pins = s.pins ∧
    (answerSnapshot s).now = s.now ∧
    (answerSnapshot s).comm = s.comm ∧
    (answerSnapshot s).psv = s.psv ∧
    (answerSnapshot s).miu = s.miu ∧
    (answerSnapshot s).ace = s.ace ∧
    (answerSnapshot s).ctu = s.ctu ∧
    (answerSnapshot s).cru = s.cru ∧
    (answerSnapshot s).ssc = s.ssc ∧
    (answerSnapshot s).tmn = s.tmn ∧
    (answerSnapshot s).stc = s.stc ∧
    (answerSnapshot s).pending = s.pending := by
  simp [answerSnapshot]

@[simp] theorem answerReadTariff_frame (payload : List Byte) (s : State) :
    (answerReadTariff payload s).pins = s.pins ∧
    (answerReadTariff payload s).now = s.now ∧
    (answerReadTariff payload s).comm = s.comm ∧
    (answerReadTariff payload s).psv = s.psv ∧
    (answerReadTariff payload s).miu = s.miu ∧
    (answerReadTariff payload s).ace = s.ace ∧
    (answerReadTariff payload s).ctu = s.ctu ∧
    (answerReadTariff payload s).cru = s.cru ∧
    (answerReadTariff payload s).ssc = s.ssc ∧
    (answerReadTariff payload s).tmn = s.tmn ∧
    (answerReadTariff payload s).stc = s.stc ∧
    (answerReadTariff payload s).pending = s.pending := by
  unfold answerReadTariff
  dsimp only
  repeat' split
  all_goals simp

@[simp] theorem answerReadTamper_frame (payload : List Byte) (s : State) :
    (answerReadTamper payload s).pins = s.pins ∧
    (answerReadTamper payload s).now = s.now ∧
    (answerReadTamper payload s).comm = s.comm ∧
    (answerReadTamper payload s).psv = s.psv ∧
    (answerReadTamper payload s).miu = s.miu ∧
    (answerReadTamper payload s).ace = s.ace ∧
    (answerReadTamper payload s).ctu = s.ctu ∧
    (answerReadTamper payload s).cru = s.cru ∧
    (answerReadTamper payload s).ssc = s.ssc ∧
    (answerReadTamper payload s).tmn = s.tmn ∧
    (answerReadTamper payload s).stc = s.stc ∧
    (answerReadTamper payload s).pending = s.pending := by
  unfold answerReadTamper
  repeat' split
  all_goals simp

@[simp] theorem answerReadHistory_frame (payload : List Byte) (s : State) :
    (answerReadHistory payload s).pins = s.pins ∧
    (answerReadHistory payload s).now = s.now ∧
    (answerReadHistory payload s).comm = s.comm ∧
    (answerReadHistory payload s).psv = s.psv ∧
    (answerReadHistory payload s).miu = s.miu ∧
    (answerReadHistory payload s).ace = s.ace ∧
    (answerReadHistory payload s).ctu = s.ctu ∧
    (answerReadHistory payload s).cru = s.cru ∧
    (answerReadHistory payload s).ssc = s.ssc ∧
    (answerReadHistory payload s).tmn = s.tmn ∧
    (answerReadHistory payload s).stc = s.stc ∧
    (answerReadHistory payload s).pending = s.pending := by
  unfold answerReadHistory
  repeat' split
  all_goals simp

@[simp] theorem answerReadRedeemed_frame (payload : List Byte) (s : State) :
    (answerReadRedeemed payload s).pins = s.pins ∧
    (answerReadRedeemed payload s).now = s.now ∧
    (answerReadRedeemed payload s).comm = s.comm ∧
    (answerReadRedeemed payload s).psv = s.psv ∧
    (answerReadRedeemed payload s).miu = s.miu ∧
    (answerReadRedeemed payload s).ace = s.ace ∧
    (answerReadRedeemed payload s).ctu = s.ctu ∧
    (answerReadRedeemed payload s).cru = s.cru ∧
    (answerReadRedeemed payload s).ssc = s.ssc ∧
    (answerReadRedeemed payload s).tmn = s.tmn ∧
    (answerReadRedeemed payload s).stc = s.stc ∧
    (answerReadRedeemed payload s).pending = s.pending := by
  unfold answerReadRedeemed
  repeat' split
  all_goals simp

@[simp] theorem answerReadAlerts_frame (s : State) :
    (answerReadAlerts s).pins = s.pins ∧
    (answerReadAlerts s).now = s.now ∧
    (answerReadAlerts s).comm = s.comm ∧
    (answerReadAlerts s).psv = s.psv ∧
    (answerReadAlerts s).miu = s.miu ∧
    (answerReadAlerts s).ace = s.ace ∧
    (answerReadAlerts s).ctu = s.ctu ∧
    (answerReadAlerts s).cru = s.cru ∧
    (answerReadAlerts s).ssc = s.ssc ∧
    (answerReadAlerts s).tmn = s.tmn ∧
    (answerReadAlerts s).stc = s.stc ∧
    (answerReadAlerts s).pending = s.pending := by
  simp [answerReadAlerts]

@[simp] theorem answerClearAlerts_frame (payload : List Byte) (s : State) :
    (answerClearAlerts payload s).pins = s.pins ∧
    (answerClearAlerts payload s).now = s.now ∧
    (answerClearAlerts payload s).comm = s.comm ∧
    (answerClearAlerts payload s).psv = s.psv ∧
    (answerClearAlerts payload s).miu = s.miu ∧
    (answerClearAlerts payload s).ace = s.ace ∧
    (answerClearAlerts payload s).ctu = s.ctu ∧
    (answerClearAlerts payload s).cru = s.cru ∧
    (answerClearAlerts payload s).ssc = s.ssc ∧
    (answerClearAlerts payload s).tmn = s.tmn ∧
    (answerClearAlerts payload s).stc = s.stc ∧
    (answerClearAlerts payload s).pending = s.pending := by
  unfold answerClearAlerts
  dsimp only
  repeat' split
  all_goals simp

@[simp] theorem answerTrimClock_frame (payload : List Byte) (s : State) :
    (answerTrimClock payload s).pins = s.pins ∧
    (answerTrimClock payload s).now = s.now ∧
    (answerTrimClock payload s).comm = s.comm ∧
    (answerTrimClock payload s).psv = s.psv ∧
    (answerTrimClock payload s).ace = s.ace ∧
    (answerTrimClock payload s).cru = s.cru ∧
    (answerTrimClock payload s).pending = s.pending := by
  simp [answerTrimClock]

@[simp] theorem provisionStore_frame (k : Commission) (key : BitVec 64) (secs : Nat) (s : State) :
    (provisionStore k key secs s).pins = s.pins ∧
    (provisionStore k key secs s).now = s.now ∧
    (provisionStore k key secs s).ace = s.ace ∧
    (provisionStore k key secs s).pending = s.pending := by
  simp [provisionStore]

@[simp] theorem provisionAccount_frame (secs : Nat) (s : State) :
    (provisionAccount secs s).pins = s.pins ∧
    (provisionAccount secs s).now = s.now ∧
    (provisionAccount secs s).comm = s.comm ∧
    (provisionAccount secs s).psv = s.psv ∧
    (provisionAccount secs s).ctu = s.ctu ∧
    (provisionAccount secs s).cru = s.cru ∧
    (provisionAccount secs s).pending = s.pending := by
  simp [provisionAccount]

@[simp] theorem provisionSupply_frame (s : State) :
    (provisionSupply s).pins = s.pins ∧
    (provisionSupply s).now = s.now ∧
    (provisionSupply s).comm = s.comm ∧
    (provisionSupply s).psv = s.psv ∧
    (provisionSupply s).ace = s.ace ∧
    (provisionSupply s).ctu = s.ctu ∧
    (provisionSupply s).cru = s.cru ∧
    (provisionSupply s).pending = s.pending := by
  unfold provisionSupply
  dsimp only
  repeat' split
  all_goals simp

@[simp] theorem provisionPart_frame (k : Commission) (key : BitVec 64) (secs : Nat) (s : State) :
    (provisionPart k key secs s).pins = s.pins ∧
    (provisionPart k key secs s).now = s.now ∧
    (provisionPart k key secs s).pending = s.pending := by
  simp [provisionPart]

@[simp] theorem answerProvision_frame (payload : List Byte) (s : State) :
    (answerProvision payload s).pins = s.pins ∧
    (answerProvision payload s).now = s.now ∧
    (answerProvision payload s).pending = s.pending := by
  unfold answerProvision
  dsimp only
  repeat' split
  all_goals simp

@[simp] theorem carryOut_frame (t : Nat) (payload : List Byte) (s : State) :
    (carryOut t payload s).pins = s.pins ∧
    (carryOut t payload s).now = s.now ∧
    (carryOut t payload s).pending = s.pending := by
  unfold carryOut
  repeat' split
  all_goals simp

@[simp] theorem answerNotReady_frame (t : Nat) (s : State) :
    (answerNotReady t s).pins = s.pins ∧
    (answerNotReady t s).now = s.now ∧
    (answerNotReady t s).comm = s.comm ∧
    (answerNotReady t s).psv = s.psv ∧
    (answerNotReady t s).miu = s.miu ∧
    (answerNotReady t s).ace = s.ace ∧
    (answerNotReady t s).ctu = s.ctu ∧
    (answerNotReady t s).cru = s.cru ∧
    (answerNotReady t s).ssc = s.ssc ∧
    (answerNotReady t s).tmn = s.tmn ∧
    (answerNotReady t s).stc = s.stc ∧
    (answerNotReady t s).pending = s.pending := by
  unfold answerNotReady
  repeat' split
  all_goals simp

@[simp] theorem answerBusy_frame (t : Nat) (s : State) :
    (answerBusy t s).pins = s.pins ∧
    (answerBusy t s).now = s.now ∧
    (answerBusy t s).comm = s.comm ∧
    (answerBusy t s).psv = s.psv ∧
    (answerBusy t s).miu = s.miu ∧
    (answerBusy t s).ace = s.ace ∧
    (answerBusy t s).ctu = s.ctu ∧
    (answerBusy t s).cru = s.cru ∧
    (answerBusy t s).ssc = s.ssc ∧
    (answerBusy t s).tmn = s.tmn ∧
    (answerBusy t s).stc = s.stc ∧
    (answerBusy t s).pending = s.pending := by
  unfold answerBusy
  repeat' split
  all_goals simp

@[simp] theorem judgeRequest_frame (type : Byte) (payload : List Byte) (s : State) :
    (judgeRequest type payload s).pins = s.pins ∧
    (judgeRequest type payload s).now = s.now ∧
    (judgeRequest type payload s).pending = s.pending := by
  unfold judgeRequest
  dsimp only
  repeat' split
  all_goals simp

@[simp] theorem setRx_frame (x : RxState) (s : State) :
    (setRx x s).pins = s.pins ∧
    (setRx x s).now = s.now ∧
    (setRx x s).comm = s.comm ∧
    (setRx x s).psv = s.psv ∧
    (setRx x s).miu = s.miu ∧
    (setRx x s).ace = s.ace ∧
    (setRx x s).ctu = s.ctu ∧
    (setRx x s).cru = s.cru ∧
    (setRx x s).ssc = s.ssc ∧
    (setRx x s).tmn = s.tmn ∧
    (setRx x s).stc = s.stc ∧
    (setRx x s).pending = s.pending := by
  simp [setRx]

@[simp] theorem receiveByte_frame (s : State) (b : RxByte) :
    (receiveByte s b).pins = s.pins ∧
    (receiveByte s b).now = s.now ∧
    (receiveByte s b).pending = s.pending := by
  unfold receiveByte
  dsimp only
  repeat' split
  all_goals simp

@[simp] theorem receive_frame (l : List RxByte) (s : State) :
    (receive l s).pins = s.pins ∧
    (receive l s).now = s.now ∧
    (receive l s).pending = s.pending := by
  unfold receive
  induction l generalizing s with
  | nil => simp
  | cons x l ih => simp [List.foldl_cons, ih]

@[simp] theorem receiveFrame_frame (type : Byte) (payload : List Byte) (s : State) :
    (receiveFrame type payload s).pins = s.pins ∧
    (receiveFrame type payload s).now = s.now ∧
    (receiveFrame type payload s).pending = s.pending := by
  simp [receiveFrame]

end Sys2Proof.Machine
end

