-- ==== Sys2Proof/Laws/Parts.lean ====
section
/-! SUPPORT. What the shared operations leave unchanged inside the blocks they touch: of LKP all but the alerts, of STC all but a waiting checkpoint request, of MIU all but the window and the supply view, of TMN the debounces. -/

namespace Sys2Proof.Machine

@[simp] theorem setChannel_parts (ch : ChannelId) (x : Channel) (m : Miu) :
    (m.setChannel ch x).window = m.window ∧
    (m.setChannel ch x).imbRun = m.imbRun ∧
    (m.setChannel ch x).balRun = m.balRun ∧
    (m.setChannel ch x).imbalance = m.imbalance ∧
    (m.setChannel ch x).reverse = m.reverse ∧
    (m.setChannel ch x).conducting = m.conducting ∧
    (m.setChannel ch x).view = m.view ∧
    (m.setChannel ch x).flashPending = m.flashPending ∧
    (m.setChannel ch x).flashSlot = m.flashSlot ∧
    (m.setChannel ch x).wLim = m.wLim ∧
    (m.setChannel ch x).channel ch = x := by
  cases ch <;> simp [Miu.setChannel, Miu.channel]

@[simp] theorem markAlert_parts (a : Alert) (s : State) :
    (markAlert a s).lkp.rx = s.lkp.rx ∧
    (markAlert a s).lkp.inService = s.lkp.inService ∧
    (markAlert a s).lkp.outbox = s.lkp.outbox := by
  simp [markAlert]

@[simp] theorem raiseAlert_parts (a : Alert) (s : State) :
    (raiseAlert a s).lkp.rx = s.lkp.rx ∧
    (raiseAlert a s).lkp.inService = s.lkp.inService ∧
    (raiseAlert a s).lkp.outbox = s.lkp.outbox := by
  unfold raiseAlert
  repeat' split
  all_goals simp

@[simp] theorem appendEventAt_parts (time : Stamp) (k : EventKind) (s : State) :
    (appendEventAt time k s).tmn.cover = s.tmn.cover ∧
    (appendEventAt time k s).tmn.terminal = s.tmn.terminal ∧
    (appendEventAt time k s).tmn.magnet = s.tmn.magnet := by
  unfold appendEventAt
  repeat' split
  all_goals simp

@[simp] theorem appendEvent_parts (k : EventKind) (s : State) :
    (appendEvent k s).tmn.cover = s.tmn.cover ∧
    (appendEvent k s).tmn.terminal = s.tmn.terminal ∧
    (appendEvent k s).tmn.magnet = s.tmn.magnet := by
  simp [appendEvent]

@[simp] theorem requestCheckpoint_parts (u : Bool) (s : State) :
    (requestCheckpoint u s).stc.journal = s.stc.journal ∧
    (requestCheckpoint u s).stc.checkpoints = s.stc.checkpoints ∧
    (requestCheckpoint u s).stc.newest = s.stc.newest ∧
    (requestCheckpoint u s).stc.nextCheckpoint = s.stc.nextCheckpoint ∧
    (requestCheckpoint u s).stc.nextJournal = s.stc.nextJournal ∧
    (requestCheckpoint u s).stc.newestJournal = s.stc.newestJournal ∧
    (requestCheckpoint u s).stc.newestNumber = s.stc.newestNumber ∧
    (requestCheckpoint u s).stc.unfolded = s.stc.unfolded ∧
    (requestCheckpoint u s).stc.health = s.stc.health ∧
    (requestCheckpoint u s).stc.saveWaiting = s.stc.saveWaiting ∧
    (requestCheckpoint u s).stc.journalWaiting = s.stc.journalWaiting ∧
    (requestCheckpoint u s).stc.write = s.stc.write := by
  unfold requestCheckpoint
  repeat' split
  all_goals simp

@[simp] theorem pushReply_parts (r : Reply) (s : State) :
    (pushReply r s).lkp.rx = s.lkp.rx ∧
    (pushReply r s).lkp.inService = s.lkp.inService ∧
    (pushReply r s).lkp.alerts = s.lkp.alerts := by
  unfold pushReply
  repeat' split
  all_goals simp

@[simp] theorem setRecord_parts (k : TamperKind) (r : KindRecord) (s : State) :
    (setRecord k r s).tmn.cover = s.tmn.cover ∧
    (setRecord k r s).tmn.terminal = s.tmn.terminal ∧
    (setRecord k r s).tmn.magnet = s.tmn.magnet := by
  simp [setRecord]

@[simp] theorem requestOrMark_parts (s : State) :
    (requestOrMark s).stc.journal = s.stc.journal ∧
    (requestOrMark s).stc.checkpoints = s.stc.checkpoints ∧
    (requestOrMark s).stc.newest = s.stc.newest ∧
    (requestOrMark s).stc.nextCheckpoint = s.stc.nextCheckpoint ∧
    (requestOrMark s).stc.nextJournal = s.stc.nextJournal ∧
    (requestOrMark s).stc.newestJournal = s.stc.newestJournal ∧
    (requestOrMark s).stc.newestNumber = s.stc.newestNumber ∧
    (requestOrMark s).stc.unfolded = s.stc.unfolded ∧
    (requestOrMark s).stc.health = s.stc.health ∧
    (requestOrMark s).stc.saveWaiting = s.stc.saveWaiting ∧
    (requestOrMark s).stc.journalWaiting = s.stc.journalWaiting ∧
    (requestOrMark s).stc.write = s.stc.write ∧
    (requestOrMark s).tmn.cover = s.tmn.cover ∧
    (requestOrMark s).tmn.terminal = s.tmn.terminal ∧
    (requestOrMark s).tmn.magnet = s.tmn.magnet := by
  unfold requestOrMark
  repeat' split
  all_goals simp

@[simp] theorem occurrence_parts (k : TamperKind) (side : Option Side) (s : State) :
    (occurrence k side s).lkp.rx = s.lkp.rx ∧
    (occurrence k side s).lkp.inService = s.lkp.inService ∧
    (occurrence k side s).lkp.outbox = s.lkp.outbox ∧
    (occurrence k side s).stc.journal = s.stc.journal ∧
    (occurrence k side s).stc.checkpoints = s.stc.checkpoints ∧
    (occurrence k side s).stc.newest = s.stc.newest ∧
    (occurrence k side s).stc.nextCheckpoint = s.stc.nextCheckpoint ∧
    (occurrence k side s).stc.nextJournal = s.stc.nextJournal ∧
    (occurrence k side s).stc.newestJournal = s.stc.newestJournal ∧
    (occurrence k side s).stc.newestNumber = s.stc.newestNumber ∧
    (occurrence k side s).stc.unfolded = s.stc.unfolded ∧
    (occurrence k side s).stc.health = s.stc.health ∧
    (occurrence k side s).stc.saveWaiting = s.stc.saveWaiting ∧
    (occurrence k side s).stc.journalWaiting = s.stc.journalWaiting ∧
    (occurrence k side s).stc.write = s.stc.write ∧
    (occurrence k side s).tmn.cover = s.tmn.cover ∧
    (occurrence k side s).tmn.terminal = s.tmn.terminal ∧
    (occurrence k side s).tmn.magnet = s.tmn.magnet := by
  unfold occurrence
  dsimp only
  repeat' split
  all_goals simp

@[simp] theorem conditionRises_parts (k : TamperKind) (side : Option Side) (s : State) :
    (conditionRises k side s).lkp.rx = s.lkp.rx ∧
    (conditionRises k side s).lkp.inService = s.lkp.inService ∧
    (conditionRises k side s).lkp.outbox = s.lkp.outbox ∧
    (conditionRises k side s).stc.journal = s.stc.journal ∧
    (conditionRises k side s).stc.checkpoints = s.stc.checkpoints ∧
    (conditionRises k side s).stc.newest = s.stc.newest ∧
    (conditionRises k side s).stc.nextCheckpoint = s.stc.nextCheckpoint ∧
    (conditionRises k side s).stc.nextJournal = s.stc.nextJournal ∧
    (conditionRises k side s).stc.newestJournal = s.stc.newestJournal ∧
    (conditionRises k side s).stc.newestNumber = s.stc.newestNumber ∧
    (conditionRises k side s).stc.unfolded = s.stc.unfolded ∧
    (conditionRises k side s).stc.health = s.stc.health ∧
    (conditionRises k side s).stc.saveWaiting = s.stc.saveWaiting ∧
    (conditionRises k side s).stc.journalWaiting = s.stc.journalWaiting ∧
    (conditionRises k side s).stc.write = s.stc.write ∧
    (conditionRises k side s).tmn.cover = s.tmn.cover ∧
    (conditionRises k side s).tmn.terminal = s.tmn.terminal ∧
    (conditionRises k side s).tmn.magnet = s.tmn.magnet := by
  unfold conditionRises
  repeat' split
  all_goals simp

@[simp] theorem conditionFalls_parts (k : TamperKind) (s : State) :
    (conditionFalls k s).tmn.cover = s.tmn.cover ∧
    (conditionFalls k s).tmn.terminal = s.tmn.terminal ∧
    (conditionFalls k s).tmn.magnet = s.tmn.magnet := by
  unfold conditionFalls
  dsimp only
  repeat' split
  all_goals simp

@[simp] theorem reportQuiet_parts (k : TamperKind) (v : Views) (s : State) :
    (reportQuiet k v s).lkp.rx = s.lkp.rx ∧
    (reportQuiet k v s).lkp.inService = s.lkp.inService ∧
    (reportQuiet k v s).lkp.outbox = s.lkp.outbox ∧
    (reportQuiet k v s).stc.journal = s.stc.journal ∧
    (reportQuiet k v s).stc.checkpoints = s.stc.checkpoints ∧
    (reportQuiet k v s).stc.newest = s.stc.newest ∧
    (reportQuiet k v s).stc.nextCheckpoint = s.stc.nextCheckpoint ∧
    (reportQuiet k v s).stc.nextJournal = s.stc.nextJournal ∧
    (reportQuiet k v s).stc.newestJournal = s.stc.newestJournal ∧
    (reportQuiet k v s).stc.newestNumber = s.stc.newestNumber ∧
    (reportQuiet k v s).stc.unfolded = s.stc.unfolded ∧
    (reportQuiet k v s).stc.health = s.stc.health ∧
    (reportQuiet k v s).stc.saveWaiting = s.stc.saveWaiting ∧
    (reportQuiet k v s).stc.journalWaiting = s.stc.journalWaiting ∧
    (reportQuiet k v s).stc.write = s.stc.write ∧
    (reportQuiet k v s).tmn.cover = s.tmn.cover ∧
    (reportQuiet k v s).tmn.terminal = s.tmn.terminal ∧
    (reportQuiet k v s).tmn.magnet = s.tmn.magnet := by
  unfold reportQuiet
  dsimp only
  repeat' split
  all_goals simp

@[simp] theorem miuLeavesOpen_parts (s : State) :
    (miuLeavesOpen s).lkp.rx = s.lkp.rx ∧
    (miuLeavesOpen s).lkp.inService = s.lkp.inService ∧
    (miuLeavesOpen s).lkp.outbox = s.lkp.outbox ∧
    (miuLeavesOpen s).stc.journal = s.stc.journal ∧
    (miuLeavesOpen s).stc.checkpoints = s.stc.checkpoints ∧
    (miuLeavesOpen s).stc.newest = s.stc.newest ∧
    (miuLeavesOpen s).stc.nextCheckpoint = s.stc.nextCheckpoint ∧
    (miuLeavesOpen s).stc.nextJournal = s.stc.nextJournal ∧
    (miuLeavesOpen s).stc.newestJournal = s.stc.newestJournal ∧
    (miuLeavesOpen s).stc.newestNumber = s.stc.newestNumber ∧
    (miuLeavesOpen s).stc.unfolded = s.stc.unfolded ∧
    (miuLeavesOpen s).stc.health = s.stc.health ∧
    (miuLeavesOpen s).stc.saveWaiting = s.stc.saveWaiting ∧
    (miuLeavesOpen s).stc.journalWaiting = s.stc.journalWaiting ∧
    (miuLeavesOpen s).stc.write = s.stc.write ∧
    (miuLeavesOpen s).miu.line = s.miu.line ∧
    (miuLeavesOpen s).miu.ret = s.miu.ret ∧
    (miuLeavesOpen s).miu.imbRun = s.miu.imbRun ∧
    (miuLeavesOpen s).miu.balRun = s.miu.balRun ∧
    (miuLeavesOpen s).miu.imbalance = s.miu.imbalance ∧
    (miuLeavesOpen s).miu.reverse = s.miu.reverse ∧
    (miuLeavesOpen s).miu.flashPending = s.miu.flashPending ∧
    (miuLeavesOpen s).miu.flashSlot = s.miu.flashSlot ∧
    (miuLeavesOpen s).miu.wLim = s.miu.wLim ∧
    (miuLeavesOpen s).tmn.cover = s.tmn.cover ∧
    (miuLeavesOpen s).tmn.terminal = s.tmn.terminal ∧
    (miuLeavesOpen s).tmn.magnet = s.tmn.magnet := by
  unfold miuLeavesOpen
  dsimp only
  repeat' split
  all_goals simp

@[simp] theorem tellMiu_parts (st : SupplyState) (s : State) :
    (tellMiu st s).lkp.rx = s.lkp.rx ∧
    (tellMiu st s).lkp.inService = s.lkp.inService ∧
    (tellMiu st s).lkp.outbox = s.lkp.outbox ∧
    (tellMiu st s).stc.journal = s.stc.journal ∧
    (tellMiu st s).stc.checkpoints = s.stc.checkpoints ∧
    (tellMiu st s).stc.newest = s.stc.newest ∧
    (tellMiu st s).stc.nextCheckpoint = s.stc.nextCheckpoint ∧
    (tellMiu st s).stc.nextJournal = s.stc.nextJournal ∧
    (tellMiu st s).stc.newestJournal = s.stc.newestJournal ∧
    (tellMiu st s).stc.newestNumber = s.stc.newestNumber ∧
    (tellMiu st s).stc.unfolded = s.stc.unfolded ∧
    (tellMiu st s).stc.health = s.stc.health ∧
    (tellMiu st s).stc.saveWaiting = s.stc.saveWaiting ∧
    (tellMiu st s).stc.journalWaiting = s.stc.journalWaiting ∧
    (tellMiu st s).stc.write = s.stc.write ∧
    (tellMiu st s).miu.line = s.miu.line ∧
    (tellMiu st s).miu.ret = s.miu.ret ∧
    (tellMiu st s).miu.imbRun = s.miu.imbRun ∧
    (tellMiu st s).miu.balRun = s.miu.balRun ∧
    (tellMiu st s).miu.imbalance = s.miu.imbalance ∧
    (tellMiu st s).miu.reverse = s.miu.reverse ∧
    (tellMiu st s).miu.flashPending = s.miu.flashPending ∧
    (tellMiu st s).miu.flashSlot = s.miu.flashSlot ∧
    (tellMiu st s).miu.wLim = s.miu.wLim ∧
    (tellMiu st s).tmn.cover = s.tmn.cover ∧
    (tellMiu st s).tmn.terminal = s.tmn.terminal ∧
    (tellMiu st s).tmn.magnet = s.tmn.magnet := by
  unfold tellMiu
  dsimp only
  repeat' split
  all_goals simp

@[simp] theorem leaveOpen_parts (s : State) :
    (leaveOpen s).lkp.rx = s.lkp.rx ∧
    (leaveOpen s).lkp.inService = s.lkp.inService ∧
    (leaveOpen s).lkp.outbox = s.lkp.outbox ∧
    (leaveOpen s).stc.journal = s.stc.journal ∧
    (leaveOpen s).stc.checkpoints = s.stc.checkpoints ∧
    (leaveOpen s).stc.newest = s.stc.newest ∧
    (leaveOpen s).stc.nextCheckpoint = s.stc.nextCheckpoint ∧
    (leaveOpen s).stc.nextJournal = s.stc.nextJournal ∧
    (leaveOpen s).stc.newestJournal = s.stc.newestJournal ∧
    (leaveOpen s).stc.newestNumber = s.stc.newestNumber ∧
    (leaveOpen s).stc.unfolded = s.stc.unfolded ∧
    (leaveOpen s).stc.health = s.stc.health ∧
    (leaveOpen s).stc.saveWaiting = s.stc.saveWaiting ∧
    (leaveOpen s).stc.journalWaiting = s.stc.journalWaiting ∧
    (leaveOpen s).stc.write = s.stc.write ∧
    (leaveOpen s).tmn.cover = s.tmn.cover ∧
    (leaveOpen s).tmn.terminal = s.tmn.terminal ∧
    (leaveOpen s).tmn.magnet = s.tmn.magnet := by
  unfold leaveOpen
  dsimp only
  repeat' split
  all_goals simp

@[simp] theorem enterState_parts (st : SupplyState) (s : State) :
    (enterState st s).lkp.rx = s.lkp.rx ∧
    (enterState st s).lkp.inService = s.lkp.inService ∧
    (enterState st s).lkp.outbox = s.lkp.outbox ∧
    (enterState st s).stc.journal = s.stc.journal ∧
    (enterState st s).stc.checkpoints = s.stc.checkpoints ∧
    (enterState st s).stc.newest = s.stc.newest ∧
    (enterState st s).stc.nextCheckpoint = s.stc.nextCheckpoint ∧
    (enterState st s).stc.nextJournal = s.stc.nextJournal ∧
    (enterState st s).stc.newestJournal = s.stc.newestJournal ∧
    (enterState st s).stc.newestNumber = s.stc.newestNumber ∧
    (enterState st s).stc.unfolded = s.stc.unfolded ∧
    (enterState st s).stc.health = s.stc.health ∧
    (enterState st s).stc.saveWaiting = s.stc.saveWaiting ∧
    (enterState st s).stc.journalWaiting = s.stc.journalWaiting ∧
    (enterState st s).stc.write = s.stc.write ∧
    (enterState st s).miu.line = s.miu.line ∧
    (enterState st s).miu.ret = s.miu.ret ∧
    (enterState st s).miu.imbRun = s.miu.imbRun ∧
    (enterState st s).miu.balRun = s.miu.balRun ∧
    (enterState st s).miu.imbalance = s.miu.imbalance ∧
    (enterState st s).miu.reverse = s.miu.reverse ∧
    (enterState st s).miu.flashPending = s.miu.flashPending ∧
    (enterState st s).miu.flashSlot = s.miu.flashSlot ∧
    (enterState st s).miu.wLim = s.miu.wLim ∧
    (enterState st s).tmn.cover = s.tmn.cover ∧
    (enterState st s).tmn.terminal = s.tmn.terminal ∧
    (enterState st s).tmn.magnet = s.tmn.magnet := by
  unfold enterState
  dsimp only
  repeat' split
  all_goals simp

@[simp] theorem enterOpening_parts (s : State) :
    (enterOpening s).lkp.rx = s.lkp.rx ∧
    (enterOpening s).lkp.inService = s.lkp.inService ∧
    (enterOpening s).lkp.outbox = s.lkp.outbox ∧
    (enterOpening s).stc.journal = s.stc.journal ∧
    (enterOpening s).stc.checkpoints = s.stc.checkpoints ∧
    (enterOpening s).stc.newest = s.stc.newest ∧
    (enterOpening s).stc.nextCheckpoint = s.stc.nextCheckpoint ∧
    (enterOpening s).stc.nextJournal = s.stc.nextJournal ∧
    (enterOpening s).stc.newestJournal = s.stc.newestJournal ∧
    (enterOpening s).stc.newestNumber = s.stc.newestNumber ∧
    (enterOpening s).stc.unfolded = s.stc.unfolded ∧
    (enterOpening s).stc.health = s.stc.health ∧
    (enterOpening s).stc.saveWaiting = s.stc.saveWaiting ∧
    (enterOpening s).stc.journalWaiting = s.stc.journalWaiting ∧
    (enterOpening s).stc.write = s.stc.write ∧
    (enterOpening s).miu.line = s.miu.line ∧
    (enterOpening s).miu.ret = s.miu.ret ∧
    (enterOpening s).miu.imbRun = s.miu.imbRun ∧
    (enterOpening s).miu.balRun = s.miu.balRun ∧
    (enterOpening s).miu.imbalance = s.miu.imbalance ∧
    (enterOpening s).miu.reverse = s.miu.reverse ∧
    (enterOpening s).miu.flashPending = s.miu.flashPending ∧
    (enterOpening s).miu.flashSlot = s.miu.flashSlot ∧
    (enterOpening s).miu.wLim = s.miu.wLim ∧
    (enterOpening s).tmn.cover = s.tmn.cover ∧
    (enterOpening s).tmn.terminal = s.tmn.terminal ∧
    (enterOpening s).tmn.magnet = s.tmn.magnet := by
  simp [enterOpening]

@[simp] theorem enterClosing_parts (s : State) :
    (enterClosing s).lkp.rx = s.lkp.rx ∧
    (enterClosing s).lkp.inService = s.lkp.inService ∧
    (enterClosing s).lkp.outbox = s.lkp.outbox ∧
    (enterClosing s).stc.journal = s.stc.journal ∧
    (enterClosing s).stc.checkpoints = s.stc.checkpoints ∧
    (enterClosing s).stc.newest = s.stc.newest ∧
    (enterClosing s).stc.nextCheckpoint = s.stc.nextCheckpoint ∧
    (enterClosing s).stc.nextJournal = s.stc.nextJournal ∧
    (enterClosing s).stc.newestJournal = s.stc.newestJournal ∧
    (enterClosing s).stc.newestNumber = s.stc.newestNumber ∧
    (enterClosing s).stc.unfolded = s.stc.unfolded ∧
    (enterClosing s).stc.health = s.stc.health ∧
    (enterClosing s).stc.saveWaiting = s.stc.saveWaiting ∧
    (enterClosing s).stc.journalWaiting = s.stc.journalWaiting ∧
    (enterClosing s).stc.write = s.stc.write ∧
    (enterClosing s).miu.line = s.miu.line ∧
    (enterClosing s).miu.ret = s.miu.ret ∧
    (enterClosing s).miu.imbRun = s.miu.imbRun ∧
    (enterClosing s).miu.balRun = s.miu.balRun ∧
    (enterClosing s).miu.imbalance = s.miu.imbalance ∧
    (enterClosing s).miu.reverse = s.miu.reverse ∧
    (enterClosing s).miu.flashPending = s.miu.flashPending ∧
    (enterClosing s).miu.flashSlot = s.miu.flashSlot ∧
    (enterClosing s).miu.wLim = s.miu.wLim ∧
    (enterClosing s).tmn.cover = s.tmn.cover ∧
    (enterClosing s).tmn.terminal = s.tmn.terminal ∧
    (enterClosing s).tmn.magnet = s.tmn.magnet := by
  simp [enterClosing]

@[simp] theorem enterArmed_parts (s : State) :
    (enterArmed s).lkp.rx = s.lkp.rx ∧
    (enterArmed s).lkp.inService = s.lkp.inService ∧
    (enterArmed s).lkp.outbox = s.lkp.outbox ∧
    (enterArmed s).stc.journal = s.stc.journal ∧
    (enterArmed s).stc.checkpoints = s.stc.checkpoints ∧
    (enterArmed s).stc.newest = s.stc.newest ∧
    (enterArmed s).stc.nextCheckpoint = s.stc.nextCheckpoint ∧
    (enterArmed s).stc.nextJournal = s.stc.nextJournal ∧
    (enterArmed s).stc.newestJournal = s.stc.newestJournal ∧
    (enterArmed s).stc.newestNumber = s.stc.newestNumber ∧
    (enterArmed s).stc.unfolded = s.stc.unfolded ∧
    (enterArmed s).stc.health = s.stc.health ∧
    (enterArmed s).stc.saveWaiting = s.stc.saveWaiting ∧
    (enterArmed s).stc.journalWaiting = s.stc.journalWaiting ∧
    (enterArmed s).stc.write = s.stc.write ∧
    (enterArmed s).miu.line = s.miu.line ∧
    (enterArmed s).miu.ret = s.miu.ret ∧
    (enterArmed s).miu.imbRun = s.miu.imbRun ∧
    (enterArmed s).miu.balRun = s.miu.balRun ∧
    (enterArmed s).miu.imbalance = s.miu.imbalance ∧
    (enterArmed s).miu.reverse = s.miu.reverse ∧
    (enterArmed s).miu.flashPending = s.miu.flashPending ∧
    (enterArmed s).miu.flashSlot = s.miu.flashSlot ∧
    (enterArmed s).miu.wLim = s.miu.wLim ∧
    (enterArmed s).tmn.cover = s.tmn.cover ∧
    (enterArmed s).tmn.terminal = s.tmn.terminal ∧
    (enterArmed s).tmn.magnet = s.tmn.magnet := by
  simp [enterArmed]

@[simp] theorem judgeOpen_parts (s : State) :
    (judgeOpen s).lkp.rx = s.lkp.rx ∧
    (judgeOpen s).lkp.inService = s.lkp.inService ∧
    (judgeOpen s).lkp.outbox = s.lkp.outbox ∧
    (judgeOpen s).stc.journal = s.stc.journal ∧
    (judgeOpen s).stc.checkpoints = s.stc.checkpoints ∧
    (judgeOpen s).stc.newest = s.stc.newest ∧
    (judgeOpen s).stc.nextCheckpoint = s.stc.nextCheckpoint ∧
    (judgeOpen s).stc.nextJournal = s.stc.nextJournal ∧
    (judgeOpen s).stc.newestJournal = s.stc.newestJournal ∧
    (judgeOpen s).stc.newestNumber = s.stc.newestNumber ∧
    (judgeOpen s).stc.unfolded = s.stc.unfolded ∧
    (judgeOpen s).stc.health = s.stc.health ∧
    (judgeOpen s).stc.saveWaiting = s.stc.saveWaiting ∧
    (judgeOpen s).stc.journalWaiting = s.stc.journalWaiting ∧
    (judgeOpen s).stc.write = s.stc.write ∧
    (judgeOpen s).miu.line = s.miu.line ∧
    (judgeOpen s).miu.ret = s.miu.ret ∧
    (judgeOpen s).miu.imbRun = s.miu.imbRun ∧
    (judgeOpen s).miu.balRun = s.miu.balRun ∧
    (judgeOpen s).miu.imbalance = s.miu.imbalance ∧
    (judgeOpen s).miu.reverse = s.miu.reverse ∧
    (judgeOpen s).miu.flashPending = s.miu.flashPending ∧
    (judgeOpen s).miu.flashSlot = s.miu.flashSlot ∧
    (judgeOpen s).miu.wLim = s.miu.wLim ∧
    (judgeOpen s).tmn.cover = s.tmn.cover ∧
    (judgeOpen s).tmn.terminal = s.tmn.terminal ∧
    (judgeOpen s).tmn.magnet = s.tmn.magnet := by
  unfold judgeOpen
  repeat' split
  all_goals simp

@[simp] theorem enterOpen_parts (e : Bool) (s : State) :
    (enterOpen e s).lkp.rx = s.lkp.rx ∧
    (enterOpen e s).lkp.inService = s.lkp.inService ∧
    (enterOpen e s).lkp.outbox = s.lkp.outbox ∧
    (enterOpen e s).stc.journal = s.stc.journal ∧
    (enterOpen e s).stc.checkpoints = s.stc.checkpoints ∧
    (enterOpen e s).stc.newest = s.stc.newest ∧
    (enterOpen e s).stc.nextCheckpoint = s.stc.nextCheckpoint ∧
    (enterOpen e s).stc.nextJournal = s.stc.nextJournal ∧
    (enterOpen e s).stc.newestJournal = s.stc.newestJournal ∧
    (enterOpen e s).stc.newestNumber = s.stc.newestNumber ∧
    (enterOpen e s).stc.unfolded = s.stc.unfolded ∧
    (enterOpen e s).stc.health = s.stc.health ∧
    (enterOpen e s).stc.saveWaiting = s.stc.saveWaiting ∧
    (enterOpen e s).stc.journalWaiting = s.stc.journalWaiting ∧
    (enterOpen e s).stc.write = s.stc.write ∧
    (enterOpen e s).miu.line = s.miu.line ∧
    (enterOpen e s).miu.ret = s.miu.ret ∧
    (enterOpen e s).miu.imbRun = s.miu.imbRun ∧
    (enterOpen e s).miu.balRun = s.miu.balRun ∧
    (enterOpen e s).miu.imbalance = s.miu.imbalance ∧
    (enterOpen e s).miu.reverse = s.miu.reverse ∧
    (enterOpen e s).miu.flashPending = s.miu.flashPending ∧
    (enterOpen e s).miu.flashSlot = s.miu.flashSlot ∧
    (enterOpen e s).miu.wLim = s.miu.wLim ∧
    (enterOpen e s).tmn.cover = s.tmn.cover ∧
    (enterOpen e s).tmn.terminal = s.tmn.terminal ∧
    (enterOpen e s).tmn.magnet = s.tmn.magnet := by
  unfold enterOpen
  dsimp only
  repeat' split
  all_goals simp

@[simp] theorem enterWarning_parts (s : State) :
    (enterWarning s).lkp.rx = s.lkp.rx ∧
    (enterWarning s).lkp.inService = s.lkp.inService ∧
    (enterWarning s).lkp.outbox = s.lkp.outbox ∧
    (enterWarning s).stc.journal = s.stc.journal ∧
    (enterWarning s).stc.checkpoints = s.stc.checkpoints ∧
    (enterWarning s).stc.newest = s.stc.newest ∧
    (enterWarning s).stc.nextCheckpoint = s.stc.nextCheckpoint ∧
    (enterWarning s).stc.nextJournal = s.stc.nextJournal ∧
    (enterWarning s).stc.newestJournal = s.stc.newestJournal ∧
    (enterWarning s).stc.newestNumber = s.stc.newestNumber ∧
    (enterWarning s).stc.unfolded = s.stc.unfolded ∧
    (enterWarning s).stc.health = s.stc.health ∧
    (enterWarning s).stc.saveWaiting = s.stc.saveWaiting ∧
    (enterWarning s).stc.journalWaiting = s.stc.journalWaiting ∧
    (enterWarning s).stc.write = s.stc.write ∧
    (enterWarning s).miu.line = s.miu.line ∧
    (enterWarning s).miu.ret = s.miu.ret ∧
    (enterWarning s).miu.imbRun = s.miu.imbRun ∧
    (enterWarning s).miu.balRun = s.miu.balRun ∧
    (enterWarning s).miu.imbalance = s.miu.imbalance ∧
    (enterWarning s).miu.reverse = s.miu.reverse ∧
    (enterWarning s).miu.flashPending = s.miu.flashPending ∧
    (enterWarning s).miu.flashSlot = s.miu.flashSlot ∧
    (enterWarning s).miu.wLim = s.miu.wLim ∧
    (enterWarning s).tmn.cover = s.tmn.cover ∧
    (enterWarning s).tmn.terminal = s.tmn.terminal ∧
    (enterWarning s).tmn.magnet = s.tmn.magnet := by
  simp [enterWarning]

@[simp] theorem enterDeferred_parts (s : State) :
    (enterDeferred s).lkp.rx = s.lkp.rx ∧
    (enterDeferred s).lkp.inService = s.lkp.inService ∧
    (enterDeferred s).lkp.outbox = s.lkp.outbox ∧
    (enterDeferred s).stc.journal = s.stc.journal ∧
    (enterDeferred s).stc.checkpoints = s.stc.checkpoints ∧
    (enterDeferred s).stc.newest = s.stc.newest ∧
    (enterDeferred s).stc.nextCheckpoint = s.stc.nextCheckpoint ∧
    (enterDeferred s).stc.nextJournal = s.stc.nextJournal ∧
    (enterDeferred s).stc.newestJournal = s.stc.newestJournal ∧
    (enterDeferred s).stc.newestNumber = s.stc.newestNumber ∧
    (enterDeferred s).stc.unfolded = s.stc.unfolded ∧
    (enterDeferred s).stc.health = s.stc.health ∧
    (enterDeferred s).stc.saveWaiting = s.stc.saveWaiting ∧
    (enterDeferred s).stc.journalWaiting = s.stc.journalWaiting ∧
    (enterDeferred s).stc.write = s.stc.write ∧
    (enterDeferred s).miu.line = s.miu.line ∧
    (enterDeferred s).miu.ret = s.miu.ret ∧
    (enterDeferred s).miu.imbRun = s.miu.imbRun ∧
    (enterDeferred s).miu.balRun = s.miu.balRun ∧
    (enterDeferred s).miu.imbalance = s.miu.imbalance ∧
    (enterDeferred s).miu.reverse = s.miu.reverse ∧
    (enterDeferred s).miu.flashPending = s.miu.flashPending ∧
    (enterDeferred s).miu.flashSlot = s.miu.flashSlot ∧
    (enterDeferred s).miu.wLim = s.miu.wLim ∧
    (enterDeferred s).tmn.cover = s.tmn.cover ∧
    (enterDeferred s).tmn.terminal = s.tmn.terminal ∧
    (enterDeferred s).tmn.magnet = s.tmn.magnet := by
  simp [enterDeferred]

@[simp] theorem warnOrDefer_parts (s : State) :
    (warnOrDefer s).lkp.rx = s.lkp.rx ∧
    (warnOrDefer s).lkp.inService = s.lkp.inService ∧
    (warnOrDefer s).lkp.outbox = s.lkp.outbox ∧
    (warnOrDefer s).stc.journal = s.stc.journal ∧
    (warnOrDefer s).stc.checkpoints = s.stc.checkpoints ∧
    (warnOrDefer s).stc.newest = s.stc.newest ∧
    (warnOrDefer s).stc.nextCheckpoint = s.stc.nextCheckpoint ∧
    (warnOrDefer s).stc.nextJournal = s.stc.nextJournal ∧
    (warnOrDefer s).stc.newestJournal = s.stc.newestJournal ∧
    (warnOrDefer s).stc.newestNumber = s.stc.newestNumber ∧
    (warnOrDefer s).stc.unfolded = s.stc.unfolded ∧
    (warnOrDefer s).stc.health = s.stc.health ∧
    (warnOrDefer s).stc.saveWaiting = s.stc.saveWaiting ∧
    (warnOrDefer s).stc.journalWaiting = s.stc.journalWaiting ∧
    (warnOrDefer s).stc.write = s.stc.write ∧
    (warnOrDefer s).miu.line = s.miu.line ∧
    (warnOrDefer s).miu.ret = s.miu.ret ∧
    (warnOrDefer s).miu.imbRun = s.miu.imbRun ∧
    (warnOrDefer s).miu.balRun = s.miu.balRun ∧
    (warnOrDefer s).miu.imbalance = s.miu.imbalance ∧
    (warnOrDefer s).miu.reverse = s.miu.reverse ∧
    (warnOrDefer s).miu.flashPending = s.miu.flashPending ∧
    (warnOrDefer s).miu.flashSlot = s.miu.flashSlot ∧
    (warnOrDefer s).miu.wLim = s.miu.wLim ∧
    (warnOrDefer s).tmn.cover = s.tmn.cover ∧
    (warnOrDefer s).tmn.terminal = s.tmn.terminal ∧
    (warnOrDefer s).tmn.magnet = s.tmn.magnet := by
  unfold warnOrDefer
  repeat' split
  all_goals simp

@[simp] theorem judgeClosed_parts (s : State) :
    (judgeClosed s).lkp.rx = s.lkp.rx ∧
    (judgeClosed s).lkp.inService = s.lkp.inService ∧
    (judgeClosed s).lkp.outbox = s.lkp.outbox ∧
    (judgeClosed s).stc.journal = s.stc.journal ∧
    (judgeClosed s).stc.checkpoints = s.stc.checkpoints ∧
    (judgeClosed s).stc.newest = s.stc.newest ∧
    (judgeClosed s).stc.nextCheckpoint = s.stc.nextCheckpoint ∧
    (judgeClosed s).stc.nextJournal = s.stc.nextJournal ∧
    (judgeClosed s).stc.newestJournal = s.stc.newestJournal ∧
    (judgeClosed s).stc.newestNumber = s.stc.newestNumber ∧
    (judgeClosed s).stc.unfolded = s.stc.unfolded ∧
    (judgeClosed s).stc.health = s.stc.health ∧
    (judgeClosed s).stc.saveWaiting = s.stc.saveWaiting ∧
    (judgeClosed s).stc.journalWaiting = s.stc.journalWaiting ∧
    (judgeClosed s).stc.write = s.stc.write ∧
    (judgeClosed s).miu.line = s.miu.line ∧
    (judgeClosed s).miu.ret = s.miu.ret ∧
    (judgeClosed s).miu.imbRun = s.miu.imbRun ∧
    (judgeClosed s).miu.balRun = s.miu.balRun ∧
    (judgeClosed s).miu.imbalance = s.miu.imbalance ∧
    (judgeClosed s).miu.reverse = s.miu.reverse ∧
    (judgeClosed s).miu.flashPending = s.miu.flashPending ∧
    (judgeClosed s).miu.flashSlot = s.miu.flashSlot ∧
    (judgeClosed s).miu.wLim = s.miu.wLim ∧
    (judgeClosed s).tmn.cover = s.tmn.cover ∧
    (judgeClosed s).tmn.terminal = s.tmn.terminal ∧
    (judgeClosed s).tmn.magnet = s.tmn.magnet := by
  unfold judgeClosed
  repeat' split
  all_goals simp

@[simp] theorem enterClosed_parts (s : State) :
    (enterClosed s).lkp.rx = s.lkp.rx ∧
    (enterClosed s).lkp.inService = s.lkp.inService ∧
    (enterClosed s).lkp.outbox = s.lkp.outbox ∧
    (enterClosed s).stc.journal = s.stc.journal ∧
    (enterClosed s).stc.checkpoints = s.stc.checkpoints ∧
    (enterClosed s).stc.newest = s.stc.newest ∧
    (enterClosed s).stc.nextCheckpoint = s.stc.nextCheckpoint ∧
    (enterClosed s).stc.nextJournal = s.stc.nextJournal ∧
    (enterClosed s).stc.newestJournal = s.stc.newestJournal ∧
    (enterClosed s).stc.newestNumber = s.stc.newestNumber ∧
    (enterClosed s).stc.unfolded = s.stc.unfolded ∧
    (enterClosed s).stc.health = s.stc.health ∧
    (enterClosed s).stc.saveWaiting = s.stc.saveWaiting ∧
    (enterClosed s).stc.journalWaiting = s.stc.journalWaiting ∧
    (enterClosed s).stc.write = s.stc.write ∧
    (enterClosed s).miu.line = s.miu.line ∧
    (enterClosed s).miu.ret = s.miu.ret ∧
    (enterClosed s).miu.imbRun = s.miu.imbRun ∧
    (enterClosed s).miu.balRun = s.miu.balRun ∧
    (enterClosed s).miu.imbalance = s.miu.imbalance ∧
    (enterClosed s).miu.reverse = s.miu.reverse ∧
    (enterClosed s).miu.flashPending = s.miu.flashPending ∧
    (enterClosed s).miu.flashSlot = s.miu.flashSlot ∧
    (enterClosed s).miu.wLim = s.miu.wLim ∧
    (enterClosed s).tmn.cover = s.tmn.cover ∧
    (enterClosed s).tmn.terminal = s.tmn.terminal ∧
    (enterClosed s).tmn.magnet = s.tmn.magnet := by
  simp [enterClosed]

@[simp] theorem reactJoin_parts (k : Cause) (s : State) :
    (reactJoin k s).lkp.rx = s.lkp.rx ∧
    (reactJoin k s).lkp.inService = s.lkp.inService ∧
    (reactJoin k s).lkp.outbox = s.lkp.outbox ∧
    (reactJoin k s).stc.journal = s.stc.journal ∧
    (reactJoin k s).stc.checkpoints = s.stc.checkpoints ∧
    (reactJoin k s).stc.newest = s.stc.newest ∧
    (reactJoin k s).stc.nextCheckpoint = s.stc.nextCheckpoint ∧
    (reactJoin k s).stc.nextJournal = s.stc.nextJournal ∧
    (reactJoin k s).stc.newestJournal = s.stc.newestJournal ∧
    (reactJoin k s).stc.newestNumber = s.stc.newestNumber ∧
    (reactJoin k s).stc.unfolded = s.stc.unfolded ∧
    (reactJoin k s).stc.health = s.stc.health ∧
    (reactJoin k s).stc.saveWaiting = s.stc.saveWaiting ∧
    (reactJoin k s).stc.journalWaiting = s.stc.journalWaiting ∧
    (reactJoin k s).stc.write = s.stc.write ∧
    (reactJoin k s).miu.line = s.miu.line ∧
    (reactJoin k s).miu.ret = s.miu.ret ∧
    (reactJoin k s).miu.imbRun = s.miu.imbRun ∧
    (reactJoin k s).miu.balRun = s.miu.balRun ∧
    (reactJoin k s).miu.imbalance = s.miu.imbalance ∧
    (reactJoin k s).miu.reverse = s.miu.reverse ∧
    (reactJoin k s).miu.flashPending = s.miu.flashPending ∧
    (reactJoin k s).miu.flashSlot = s.miu.flashSlot ∧
    (reactJoin k s).miu.wLim = s.miu.wLim ∧
    (reactJoin k s).tmn.cover = s.tmn.cover ∧
    (reactJoin k s).tmn.terminal = s.tmn.terminal ∧
    (reactJoin k s).tmn.magnet = s.tmn.magnet := by
  unfold reactJoin
  repeat' split
  all_goals simp

@[simp] theorem reactLeave_parts (k : Cause) (s : State) :
    (reactLeave k s).lkp.rx = s.lkp.rx ∧
    (reactLeave k s).lkp.inService = s.lkp.inService ∧
    (reactLeave k s).lkp.outbox = s.lkp.outbox ∧
    (reactLeave k s).stc.journal = s.stc.journal ∧
    (reactLeave k s).stc.checkpoints = s.stc.checkpoints ∧
    (reactLeave k s).stc.newest = s.stc.newest ∧
    (reactLeave k s).stc.nextCheckpoint = s.stc.nextCheckpoint ∧
    (reactLeave k s).stc.nextJournal = s.stc.nextJournal ∧
    (reactLeave k s).stc.newestJournal = s.stc.newestJournal ∧
    (reactLeave k s).stc.newestNumber = s.stc.newestNumber ∧
    (reactLeave k s).stc.unfolded = s.stc.unfolded ∧
    (reactLeave k s).stc.health = s.stc.health ∧
    (reactLeave k s).stc.saveWaiting = s.stc.saveWaiting ∧
    (reactLeave k s).stc.journalWaiting = s.stc.journalWaiting ∧
    (reactLeave k s).stc.write = s.stc.write ∧
    (reactLeave k s).miu.line = s.miu.line ∧
    (reactLeave k s).miu.ret = s.miu.ret ∧
    (reactLeave k s).miu.imbRun = s.miu.imbRun ∧
    (reactLeave k s).miu.balRun = s.miu.balRun ∧
    (reactLeave k s).miu.imbalance = s.miu.imbalance ∧
    (reactLeave k s).miu.reverse = s.miu.reverse ∧
    (reactLeave k s).miu.flashPending = s.miu.flashPending ∧
    (reactLeave k s).miu.flashSlot = s.miu.flashSlot ∧
    (reactLeave k s).miu.wLim = s.miu.wLim ∧
    (reactLeave k s).tmn.cover = s.tmn.cover ∧
    (reactLeave k s).tmn.terminal = s.tmn.terminal ∧
    (reactLeave k s).tmn.magnet = s.tmn.magnet := by
  unfold reactLeave
  repeat' split
  all_goals simp

@[simp] theorem setCause_parts (k : Cause) (x : Bool) (s : State) :
    (setCause k x s).lkp.rx = s.lkp.rx ∧
    (setCause k x s).lkp.inService = s.lkp.inService ∧
    (setCause k x s).lkp.outbox = s.lkp.outbox ∧
    (setCause k x s).stc.journal = s.stc.journal ∧
    (setCause k x s).stc.checkpoints = s.stc.checkpoints ∧
    (setCause k x s).stc.newest = s.stc.newest ∧
    (setCause k x s).stc.nextCheckpoint = s.stc.nextCheckpoint ∧
    (setCause k x s).stc.nextJournal = s.stc.nextJournal ∧
    (setCause k x s).stc.newestJournal = s.stc.newestJournal ∧
    (setCause k x s).stc.newestNumber = s.stc.newestNumber ∧
    (setCause k x s).stc.unfolded = s.stc.unfolded ∧
    (setCause k x s).stc.health = s.stc.health ∧
    (setCause k x s).stc.saveWaiting = s.stc.saveWaiting ∧
    (setCause k x s).stc.journalWaiting = s.stc.journalWaiting ∧
    (setCause k x s).stc.write = s.stc.write ∧
    (setCause k x s).miu.line = s.miu.line ∧
    (setCause k x s).miu.ret = s.miu.ret ∧
    (setCause k x s).miu.imbRun = s.miu.imbRun ∧
    (setCause k x s).miu.balRun = s.miu.balRun ∧
    (setCause k x s).miu.imbalance = s.miu.imbalance ∧
    (setCause k x s).miu.reverse = s.miu.reverse ∧
    (setCause k x s).miu.flashPending = s.miu.flashPending ∧
    (setCause k x s).miu.flashSlot = s.miu.flashSlot ∧
    (setCause k x s).miu.wLim = s.miu.wLim ∧
    (setCause k x s).tmn.cover = s.tmn.cover ∧
    (setCause k x s).tmn.terminal = s.tmn.terminal ∧
    (setCause k x s).tmn.magnet = s.tmn.magnet := by
  unfold setCause
  dsimp only
  repeat' split
  all_goals simp

@[simp] theorem tellFriendly_parts (f : Bool) (s : State) :
    (tellFriendly f s).lkp.rx = s.lkp.rx ∧
    (tellFriendly f s).lkp.inService = s.lkp.inService ∧
    (tellFriendly f s).lkp.outbox = s.lkp.outbox ∧
    (tellFriendly f s).stc.journal = s.stc.journal ∧
    (tellFriendly f s).stc.checkpoints = s.stc.checkpoints ∧
    (tellFriendly f s).stc.newest = s.stc.newest ∧
    (tellFriendly f s).stc.nextCheckpoint = s.stc.nextCheckpoint ∧
    (tellFriendly f s).stc.nextJournal = s.stc.nextJournal ∧
    (tellFriendly f s).stc.newestJournal = s.stc.newestJournal ∧
    (tellFriendly f s).stc.newestNumber = s.stc.newestNumber ∧
    (tellFriendly f s).stc.unfolded = s.stc.unfolded ∧
    (tellFriendly f s).stc.health = s.stc.health ∧
    (tellFriendly f s).stc.saveWaiting = s.stc.saveWaiting ∧
    (tellFriendly f s).stc.journalWaiting = s.stc.journalWaiting ∧
    (tellFriendly f s).stc.write = s.stc.write ∧
    (tellFriendly f s).miu.line = s.miu.line ∧
    (tellFriendly f s).miu.ret = s.miu.ret ∧
    (tellFriendly f s).miu.imbRun = s.miu.imbRun ∧
    (tellFriendly f s).miu.balRun = s.miu.balRun ∧
    (tellFriendly f s).miu.imbalance = s.miu.imbalance ∧
    (tellFriendly f s).miu.reverse = s.miu.reverse ∧
    (tellFriendly f s).miu.flashPending = s.miu.flashPending ∧
    (tellFriendly f s).miu.flashSlot = s.miu.flashSlot ∧
    (tellFriendly f s).miu.wLim = s.miu.wLim ∧
    (tellFriendly f s).tmn.cover = s.tmn.cover ∧
    (tellFriendly f s).tmn.terminal = s.tmn.terminal ∧
    (tellFriendly f s).tmn.magnet = s.tmn.magnet := by
  unfold tellFriendly
  dsimp only
  repeat' split
  all_goals simp

@[simp] theorem switchFaultRises_parts (s : State) :
    (switchFaultRises s).lkp.rx = s.lkp.rx ∧
    (switchFaultRises s).lkp.inService = s.lkp.inService ∧
    (switchFaultRises s).lkp.outbox = s.lkp.outbox ∧
    (switchFaultRises s).stc.journal = s.stc.journal ∧
    (switchFaultRises s).stc.checkpoints = s.stc.checkpoints ∧
    (switchFaultRises s).stc.newest = s.stc.newest ∧
    (switchFaultRises s).stc.nextCheckpoint = s.stc.nextCheckpoint ∧
    (switchFaultRises s).stc.nextJournal = s.stc.nextJournal ∧
    (switchFaultRises s).stc.newestJournal = s.stc.newestJournal ∧
    (switchFaultRises s).stc.newestNumber = s.stc.newestNumber ∧
    (switchFaultRises s).stc.unfolded = s.stc.unfolded ∧
    (switchFaultRises s).stc.health = s.stc.health ∧
    (switchFaultRises s).stc.saveWaiting = s.stc.saveWaiting ∧
    (switchFaultRises s).stc.journalWaiting = s.stc.journalWaiting ∧
    (switchFaultRises s).stc.write = s.stc.write ∧
    (switchFaultRises s).tmn.cover = s.tmn.cover ∧
    (switchFaultRises s).tmn.terminal = s.tmn.terminal ∧
    (switchFaultRises s).tmn.magnet = s.tmn.magnet := by
  unfold switchFaultRises
  dsimp only
  repeat' split
  all_goals simp

@[simp] theorem switchFaultFalls_parts (s : State) :
    (switchFaultFalls s).lkp.rx = s.lkp.rx ∧
    (switchFaultFalls s).lkp.inService = s.lkp.inService ∧
    (switchFaultFalls s).lkp.outbox = s.lkp.outbox ∧
    (switchFaultFalls s).stc.journal = s.stc.journal ∧
    (switchFaultFalls s).stc.checkpoints = s.stc.checkpoints ∧
    (switchFaultFalls s).stc.newest = s.stc.newest ∧
    (switchFaultFalls s).stc.nextCheckpoint = s.stc.nextCheckpoint ∧
    (switchFaultFalls s).stc.nextJournal = s.stc.nextJournal ∧
    (switchFaultFalls s).stc.newestJournal = s.stc.newestJournal ∧
    (switchFaultFalls s).stc.newestNumber = s.stc.newestNumber ∧
    (switchFaultFalls s).stc.unfolded = s.stc.unfolded ∧
    (switchFaultFalls s).stc.health = s.stc.health ∧
    (switchFaultFalls s).stc.saveWaiting = s.stc.saveWaiting ∧
    (switchFaultFalls s).stc.journalWaiting = s.stc.journalWaiting ∧
    (switchFaultFalls s).stc.write = s.stc.write ∧
    (switchFaultFalls s).tmn.cover = s.tmn.cover ∧
    (switchFaultFalls s).tmn.terminal = s.tmn.terminal ∧
    (switchFaultFalls s).tmn.magnet = s.tmn.magnet := by
  simp [switchFaultFalls]

@[simp] theorem enterStuck_parts (dir : Direction) (s : State) :
    (enterStuck dir s).lkp.rx = s.lkp.rx ∧
    (enterStuck dir s).lkp.inService = s.lkp.inService ∧
    (enterStuck dir s).lkp.outbox = s.lkp.outbox ∧
    (enterStuck dir s).stc.journal = s.stc.journal ∧
    (enterStuck dir s).stc.checkpoints = s.stc.checkpoints ∧
    (enterStuck dir s).stc.newest = s.stc.newest ∧
    (enterStuck dir s).stc.nextCheckpoint = s.stc.nextCheckpoint ∧
    (enterStuck dir s).stc.nextJournal = s.stc.nextJournal ∧
    (enterStuck dir s).stc.newestJournal = s.stc.newestJournal ∧
    (enterStuck dir s).stc.newestNumber = s.stc.newestNumber ∧
    (enterStuck dir s).stc.unfolded = s.stc.unfolded ∧
    (enterStuck dir s).stc.health = s.stc.health ∧
    (enterStuck dir s).stc.saveWaiting = s.stc.saveWaiting ∧
    (enterStuck dir s).stc.journalWaiting = s.stc.journalWaiting ∧
    (enterStuck dir s).stc.write = s.stc.write ∧
    (enterStuck dir s).miu.line = s.miu.line ∧
    (enterStuck dir s).miu.ret = s.miu.ret ∧
    (enterStuck dir s).miu.imbRun = s.miu.imbRun ∧
    (enterStuck dir s).miu.balRun = s.miu.balRun ∧
    (enterStuck dir s).miu.imbalance = s.miu.imbalance ∧
    (enterStuck dir s).miu.reverse = s.miu.reverse ∧
    (enterStuck dir s).miu.flashPending = s.miu.flashPending ∧
    (enterStuck dir s).miu.flashSlot = s.miu.flashSlot ∧
    (enterStuck dir s).miu.wLim = s.miu.wLim ∧
    (enterStuck dir s).tmn.cover = s.tmn.cover ∧
    (enterStuck dir s).tmn.terminal = s.tmn.terminal ∧
    (enterStuck dir s).tmn.magnet = s.tmn.magnet := by
  unfold enterStuck
  dsimp only
  repeat' split
  all_goals simp

@[simp] theorem runSucceeds_parts (dir : Direction) (s : State) :
    (runSucceeds dir s).lkp.rx = s.lkp.rx ∧
    (runSucceeds dir s).lkp.inService = s.lkp.inService ∧
    (runSucceeds dir s).lkp.outbox = s.lkp.outbox ∧
    (runSucceeds dir s).stc.journal = s.stc.journal ∧
    (runSucceeds dir s).stc.checkpoints = s.stc.checkpoints ∧
    (runSucceeds dir s).stc.newest = s.stc.newest ∧
    (runSucceeds dir s).stc.nextCheckpoint = s.stc.nextCheckpoint ∧
    (runSucceeds dir s).stc.nextJournal = s.stc.nextJournal ∧
    (runSucceeds dir s).stc.newestJournal = s.stc.newestJournal ∧
    (runSucceeds dir s).stc.newestNumber = s.stc.newestNumber ∧
    (runSucceeds dir s).stc.unfolded = s.stc.unfolded ∧
    (runSucceeds dir s).stc.health = s.stc.health ∧
    (runSucceeds dir s).stc.saveWaiting = s.stc.saveWaiting ∧
    (runSucceeds dir s).stc.journalWaiting = s.stc.journalWaiting ∧
    (runSucceeds dir s).stc.write = s.stc.write ∧
    (runSucceeds dir s).miu.line = s.miu.line ∧
    (runSucceeds dir s).miu.ret = s.miu.ret ∧
    (runSucceeds dir s).miu.imbRun = s.miu.imbRun ∧
    (runSucceeds dir s).miu.balRun = s.miu.balRun ∧
    (runSucceeds dir s).miu.imbalance = s.miu.imbalance ∧
    (runSucceeds dir s).miu.reverse = s.miu.reverse ∧
    (runSucceeds dir s).miu.flashPending = s.miu.flashPending ∧
    (runSucceeds dir s).miu.flashSlot = s.miu.flashSlot ∧
    (runSucceeds dir s).miu.wLim = s.miu.wLim ∧
    (runSucceeds dir s).tmn.cover = s.tmn.cover ∧
    (runSucceeds dir s).tmn.terminal = s.tmn.terminal ∧
    (runSucceeds dir s).tmn.magnet = s.tmn.magnet := by
  unfold runSucceeds
  dsimp only
  repeat' split
  all_goals simp

@[simp] theorem runFails_parts (dir : Direction) (s : State) :
    (runFails dir s).lkp.rx = s.lkp.rx ∧
    (runFails dir s).lkp.inService = s.lkp.inService ∧
    (runFails dir s).lkp.outbox = s.lkp.outbox ∧
    (runFails dir s).stc.journal = s.stc.journal ∧
    (runFails dir s).stc.checkpoints = s.stc.checkpoints ∧
    (runFails dir s).stc.newest = s.stc.newest ∧
    (runFails dir s).stc.nextCheckpoint = s.stc.nextCheckpoint ∧
    (runFails dir s).stc.nextJournal = s.stc.nextJournal ∧
    (runFails dir s).stc.newestJournal = s.stc.newestJournal ∧
    (runFails dir s).stc.newestNumber = s.stc.newestNumber ∧
    (runFails dir s).stc.unfolded = s.stc.unfolded ∧
    (runFails dir s).stc.health = s.stc.health ∧
    (runFails dir s).stc.saveWaiting = s.stc.saveWaiting ∧
    (runFails dir s).stc.journalWaiting = s.stc.journalWaiting ∧
    (runFails dir s).stc.write = s.stc.write ∧
    (runFails dir s).miu.line = s.miu.line ∧
    (runFails dir s).miu.ret = s.miu.ret ∧
    (runFails dir s).miu.imbRun = s.miu.imbRun ∧
    (runFails dir s).miu.balRun = s.miu.balRun ∧
    (runFails dir s).miu.imbalance = s.miu.imbalance ∧
    (runFails dir s).miu.reverse = s.miu.reverse ∧
    (runFails dir s).miu.flashPending = s.miu.flashPending ∧
    (runFails dir s).miu.flashSlot = s.miu.flashSlot ∧
    (runFails dir s).miu.wLim = s.miu.wLim ∧
    (runFails dir s).tmn.cover = s.tmn.cover ∧
    (runFails dir s).tmn.terminal = s.tmn.terminal ∧
    (runFails dir s).tmn.magnet = s.tmn.magnet := by
  unfold runFails
  dsimp only
  repeat' split
  all_goals simp

@[simp] theorem attemptFails_parts (r : DriveRun) (why : FailReason) (s : State) :
    (attemptFails r why s).lkp.rx = s.lkp.rx ∧
    (attemptFails r why s).lkp.inService = s.lkp.inService ∧
    (attemptFails r why s).lkp.outbox = s.lkp.outbox ∧
    (attemptFails r why s).stc.journal = s.stc.journal ∧
    (attemptFails r why s).stc.checkpoints = s.stc.checkpoints ∧
    (attemptFails r why s).stc.newest = s.stc.newest ∧
    (attemptFails r why s).stc.nextCheckpoint = s.stc.nextCheckpoint ∧
    (attemptFails r why s).stc.nextJournal = s.stc.nextJournal ∧
    (attemptFails r why s).stc.newestJournal = s.stc.newestJournal ∧
    (attemptFails r why s).stc.newestNumber = s.stc.newestNumber ∧
    (attemptFails r why s).stc.unfolded = s.stc.unfolded ∧
    (attemptFails r why s).stc.health = s.stc.health ∧
    (attemptFails r why s).stc.saveWaiting = s.stc.saveWaiting ∧
    (attemptFails r why s).stc.journalWaiting = s.stc.journalWaiting ∧
    (attemptFails r why s).stc.write = s.stc.write ∧
    (attemptFails r why s).miu.line = s.miu.line ∧
    (attemptFails r why s).miu.ret = s.miu.ret ∧
    (attemptFails r why s).miu.imbRun = s.miu.imbRun ∧
    (attemptFails r why s).miu.balRun = s.miu.balRun ∧
    (attemptFails r why s).miu.imbalance = s.miu.imbalance ∧
    (attemptFails r why s).miu.reverse = s.miu.reverse ∧
    (attemptFails r why s).miu.flashPending = s.miu.flashPending ∧
    (attemptFails r why s).miu.flashSlot = s.miu.flashSlot ∧
    (attemptFails r why s).miu.wLim = s.miu.wLim ∧
    (attemptFails r why s).tmn.cover = s.tmn.cover ∧
    (attemptFails r why s).tmn.terminal = s.tmn.terminal ∧
    (attemptFails r why s).tmn.magnet = s.tmn.magnet := by
  unfold attemptFails
  repeat' split
  all_goals simp

@[simp] theorem judgeTamper_parts (s : State) :
    (judgeTamper s).lkp.rx = s.lkp.rx ∧
    (judgeTamper s).lkp.inService = s.lkp.inService ∧
    (judgeTamper s).lkp.outbox = s.lkp.outbox ∧
    (judgeTamper s).stc.journal = s.stc.journal ∧
    (judgeTamper s).stc.checkpoints = s.stc.checkpoints ∧
    (judgeTamper s).stc.newest = s.stc.newest ∧
    (judgeTamper s).stc.nextCheckpoint = s.stc.nextCheckpoint ∧
    (judgeTamper s).stc.nextJournal = s.stc.nextJournal ∧
    (judgeTamper s).stc.newestJournal = s.stc.newestJournal ∧
    (judgeTamper s).stc.newestNumber = s.stc.newestNumber ∧
    (judgeTamper s).stc.unfolded = s.stc.unfolded ∧
    (judgeTamper s).stc.health = s.stc.health ∧
    (judgeTamper s).stc.saveWaiting = s.stc.saveWaiting ∧
    (judgeTamper s).stc.journalWaiting = s.stc.journalWaiting ∧
    (judgeTamper s).stc.write = s.stc.write ∧
    (judgeTamper s).miu.line = s.miu.line ∧
    (judgeTamper s).miu.ret = s.miu.ret ∧
    (judgeTamper s).miu.imbRun = s.miu.imbRun ∧
    (judgeTamper s).miu.balRun = s.miu.balRun ∧
    (judgeTamper s).miu.imbalance = s.miu.imbalance ∧
    (judgeTamper s).miu.reverse = s.miu.reverse ∧
    (judgeTamper s).miu.flashPending = s.miu.flashPending ∧
    (judgeTamper s).miu.flashSlot = s.miu.flashSlot ∧
    (judgeTamper s).miu.wLim = s.miu.wLim ∧
    (judgeTamper s).tmn.cover = s.tmn.cover ∧
    (judgeTamper s).tmn.terminal = s.tmn.terminal ∧
    (judgeTamper s).tmn.magnet = s.tmn.magnet := by
  unfold judgeTamper
  repeat' split
  all_goals simp

@[simp] theorem report_parts (k : TamperKind) (v : Views) (s : State) :
    (report k v s).lkp.rx = s.lkp.rx ∧
    (report k v s).lkp.inService = s.lkp.inService ∧
    (report k v s).lkp.outbox = s.lkp.outbox ∧
    (report k v s).stc.journal = s.stc.journal ∧
    (report k v s).stc.checkpoints = s.stc.checkpoints ∧
    (report k v s).stc.newest = s.stc.newest ∧
    (report k v s).stc.nextCheckpoint = s.stc.nextCheckpoint ∧
    (report k v s).stc.nextJournal = s.stc.nextJournal ∧
    (report k v s).stc.newestJournal = s.stc.newestJournal ∧
    (report k v s).stc.newestNumber = s.stc.newestNumber ∧
    (report k v s).stc.unfolded = s.stc.unfolded ∧
    (report k v s).stc.health = s.stc.health ∧
    (report k v s).stc.saveWaiting = s.stc.saveWaiting ∧
    (report k v s).stc.journalWaiting = s.stc.journalWaiting ∧
    (report k v s).stc.write = s.stc.write ∧
    (report k v s).miu.line = s.miu.line ∧
    (report k v s).miu.ret = s.miu.ret ∧
    (report k v s).miu.imbRun = s.miu.imbRun ∧
    (report k v s).miu.balRun = s.miu.balRun ∧
    (report k v s).miu.imbalance = s.miu.imbalance ∧
    (report k v s).miu.reverse = s.miu.reverse ∧
    (report k v s).miu.flashPending = s.miu.flashPending ∧
    (report k v s).miu.flashSlot = s.miu.flashSlot ∧
    (report k v s).miu.wLim = s.miu.wLim ∧
    (report k v s).tmn.cover = s.tmn.cover ∧
    (report k v s).tmn.terminal = s.tmn.terminal ∧
    (report k v s).tmn.magnet = s.tmn.magnet := by
  unfold report
  repeat' split
  all_goals simp

@[simp] theorem switchLevel_parts (sw : Switch) (x : Bool) (s : State) :
    (switchLevel sw x s).lkp.rx = s.lkp.rx ∧
    (switchLevel sw x s).lkp.inService = s.lkp.inService ∧
    (switchLevel sw x s).lkp.outbox = s.lkp.outbox ∧
    (switchLevel sw x s).stc.journal = s.stc.journal ∧
    (switchLevel sw x s).stc.checkpoints = s.stc.checkpoints ∧
    (switchLevel sw x s).stc.newest = s.stc.newest ∧
    (switchLevel sw x s).stc.nextCheckpoint = s.stc.nextCheckpoint ∧
    (switchLevel sw x s).stc.nextJournal = s.stc.nextJournal ∧
    (switchLevel sw x s).stc.newestJournal = s.stc.newestJournal ∧
    (switchLevel sw x s).stc.newestNumber = s.stc.newestNumber ∧
    (switchLevel sw x s).stc.unfolded = s.stc.unfolded ∧
    (switchLevel sw x s).stc.health = s.stc.health ∧
    (switchLevel sw x s).stc.saveWaiting = s.stc.saveWaiting ∧
    (switchLevel sw x s).stc.journalWaiting = s.stc.journalWaiting ∧
    (switchLevel sw x s).stc.write = s.stc.write ∧
    (switchLevel sw x s).miu.line = s.miu.line ∧
    (switchLevel sw x s).miu.ret = s.miu.ret ∧
    (switchLevel sw x s).miu.imbRun = s.miu.imbRun ∧
    (switchLevel sw x s).miu.balRun = s.miu.balRun ∧
    (switchLevel sw x s).miu.imbalance = s.miu.imbalance ∧
    (switchLevel sw x s).miu.reverse = s.miu.reverse ∧
    (switchLevel sw x s).miu.flashPending = s.miu.flashPending ∧
    (switchLevel sw x s).miu.flashSlot = s.miu.flashSlot ∧
    (switchLevel sw x s).miu.wLim = s.miu.wLim ∧
    (switchLevel sw x s).tmn.cover = s.tmn.cover ∧
    (switchLevel sw x s).tmn.terminal = s.tmn.terminal ∧
    (switchLevel sw x s).tmn.magnet = s.tmn.magnet := by
  unfold switchLevel
  repeat' split
  all_goals simp

@[simp] theorem judgeCredit_parts (s : State) :
    (judgeCredit s).lkp.rx = s.lkp.rx ∧
    (judgeCredit s).lkp.inService = s.lkp.inService ∧
    (judgeCredit s).lkp.outbox = s.lkp.outbox ∧
    (judgeCredit s).stc.journal = s.stc.journal ∧
    (judgeCredit s).stc.checkpoints = s.stc.checkpoints ∧
    (judgeCredit s).stc.newest = s.stc.newest ∧
    (judgeCredit s).stc.nextCheckpoint = s.stc.nextCheckpoint ∧
    (judgeCredit s).stc.nextJournal = s.stc.nextJournal ∧
    (judgeCredit s).stc.newestJournal = s.stc.newestJournal ∧
    (judgeCredit s).stc.newestNumber = s.stc.newestNumber ∧
    (judgeCredit s).stc.unfolded = s.stc.unfolded ∧
    (judgeCredit s).stc.health = s.stc.health ∧
    (judgeCredit s).stc.saveWaiting = s.stc.saveWaiting ∧
    (judgeCredit s).stc.journalWaiting = s.stc.journalWaiting ∧
    (judgeCredit s).stc.write = s.stc.write ∧
    (judgeCredit s).miu.line = s.miu.line ∧
    (judgeCredit s).miu.ret = s.miu.ret ∧
    (judgeCredit s).miu.imbRun = s.miu.imbRun ∧
    (judgeCredit s).miu.balRun = s.miu.balRun ∧
    (judgeCredit s).miu.imbalance = s.miu.imbalance ∧
    (judgeCredit s).miu.reverse = s.miu.reverse ∧
    (judgeCredit s).miu.flashPending = s.miu.flashPending ∧
    (judgeCredit s).miu.flashSlot = s.miu.flashSlot ∧
    (judgeCredit s).miu.wLim = s.miu.wLim ∧
    (judgeCredit s).tmn.cover = s.tmn.cover ∧
    (judgeCredit s).tmn.terminal = s.tmn.terminal ∧
    (judgeCredit s).tmn.magnet = s.tmn.magnet := by
  simp [judgeCredit]

@[simp] theorem judgeLow_parts (s : State) :
    (judgeLow s).lkp.rx = s.lkp.rx ∧
    (judgeLow s).lkp.inService = s.lkp.inService ∧
    (judgeLow s).lkp.outbox = s.lkp.outbox := by
  unfold judgeLow
  dsimp only
  repeat' split
  all_goals simp

@[simp] theorem judgeEmergency_parts (s : State) :
    (judgeEmergency s).lkp.rx = s.lkp.rx ∧
    (judgeEmergency s).lkp.inService = s.lkp.inService ∧
    (judgeEmergency s).lkp.outbox = s.lkp.outbox := by
  unfold judgeEmergency
  dsimp only
  repeat' split
  all_goals simp

@[simp] theorem judgeAccount_parts (s : State) :
    (judgeAccount s).lkp.rx = s.lkp.rx ∧
    (judgeAccount s).lkp.inService = s.lkp.inService ∧
    (judgeAccount s).lkp.outbox = s.lkp.outbox ∧
    (judgeAccount s).stc.journal = s.stc.journal ∧
    (judgeAccount s).stc.checkpoints = s.stc.checkpoints ∧
    (judgeAccount s).stc.newest = s.stc.newest ∧
    (judgeAccount s).stc.nextCheckpoint = s.stc.nextCheckpoint ∧
    (judgeAccount s).stc.nextJournal = s.stc.nextJournal ∧
    (judgeAccount s).stc.newestJournal = s.stc.newestJournal ∧
    (judgeAccount s).stc.newestNumber = s.stc.newestNumber ∧
    (judgeAccount s).stc.unfolded = s.stc.unfolded ∧
    (judgeAccount s).stc.health = s.stc.health ∧
    (judgeAccount s).stc.saveWaiting = s.stc.saveWaiting ∧
    (judgeAccount s).stc.journalWaiting = s.stc.journalWaiting ∧
    (judgeAccount s).stc.write = s.stc.write ∧
    (judgeAccount s).miu.line = s.miu.line ∧
    (judgeAccount s).miu.ret = s.miu.ret ∧
    (judgeAccount s).miu.imbRun = s.miu.imbRun ∧
    (judgeAccount s).miu.balRun = s.miu.balRun ∧
    (judgeAccount s).miu.imbalance = s.miu.imbalance ∧
    (judgeAccount s).miu.reverse = s.miu.reverse ∧
    (judgeAccount s).miu.flashPending = s.miu.flashPending ∧
    (judgeAccount s).miu.flashSlot = s.miu.flashSlot ∧
    (judgeAccount s).miu.wLim = s.miu.wLim ∧
    (judgeAccount s).tmn.cover = s.tmn.cover ∧
    (judgeAccount s).tmn.terminal = s.tmn.terminal ∧
    (judgeAccount s).tmn.magnet = s.tmn.magnet := by
  simp [judgeAccount]

@[simp] theorem charge_parts (q : Nat) (s : State) :
    (charge q s).lkp.rx = s.lkp.rx ∧
    (charge q s).lkp.inService = s.lkp.inService ∧
    (charge q s).lkp.outbox = s.lkp.outbox ∧
    (charge q s).stc.journal = s.stc.journal ∧
    (charge q s).stc.checkpoints = s.stc.checkpoints ∧
    (charge q s).stc.newest = s.stc.newest ∧
    (charge q s).stc.nextCheckpoint = s.stc.nextCheckpoint ∧
    (charge q s).stc.nextJournal = s.stc.nextJournal ∧
    (charge q s).stc.newestJournal = s.stc.newestJournal ∧
    (charge q s).stc.newestNumber = s.stc.newestNumber ∧
    (charge q s).stc.unfolded = s.stc.unfolded ∧
    (charge q s).stc.health = s.stc.health ∧
    (charge q s).stc.saveWaiting = s.stc.saveWaiting ∧
    (charge q s).stc.journalWaiting = s.stc.journalWaiting ∧
    (charge q s).stc.write = s.stc.write ∧
    (charge q s).miu.line = s.miu.line ∧
    (charge q s).miu.ret = s.miu.ret ∧
    (charge q s).miu.imbRun = s.miu.imbRun ∧
    (charge q s).miu.balRun = s.miu.balRun ∧
    (charge q s).miu.imbalance = s.miu.imbalance ∧
    (charge q s).miu.reverse = s.miu.reverse ∧
    (charge q s).miu.flashPending = s.miu.flashPending ∧
    (charge q s).miu.flashSlot = s.miu.flashSlot ∧
    (charge q s).miu.wLim = s.miu.wLim ∧
    (charge q s).tmn.cover = s.tmn.cover ∧
    (charge q s).tmn.terminal = s.tmn.terminal ∧
    (charge q s).tmn.magnet = s.tmn.magnet := by
  unfold charge
  repeat' split
  all_goals simp

@[simp] theorem billPulse_parts (s : State) :
    (billPulse s).lkp.rx = s.lkp.rx ∧
    (billPulse s).lkp.inService = s.lkp.inService ∧
    (billPulse s).lkp.outbox = s.lkp.outbox ∧
    (billPulse s).stc.journal = s.stc.journal ∧
    (billPulse s).stc.checkpoints = s.stc.checkpoints ∧
    (billPulse s).stc.newest = s.stc.newest ∧
    (billPulse s).stc.nextCheckpoint = s.stc.nextCheckpoint ∧
    (billPulse s).stc.nextJournal = s.stc.nextJournal ∧
    (billPulse s).stc.newestJournal = s.stc.newestJournal ∧
    (billPulse s).stc.newestNumber = s.stc.newestNumber ∧
    (billPulse s).stc.unfolded = s.stc.unfolded ∧
    (billPulse s).stc.health = s.stc.health ∧
    (billPulse s).stc.saveWaiting = s.stc.saveWaiting ∧
    (billPulse s).stc.journalWaiting = s.stc.journalWaiting ∧
    (billPulse s).stc.write = s.stc.write ∧
    (billPulse s).miu.line = s.miu.line ∧
    (billPulse s).miu.ret = s.miu.ret ∧
    (billPulse s).miu.imbRun = s.miu.imbRun ∧
    (billPulse s).miu.balRun = s.miu.balRun ∧
    (billPulse s).miu.imbalance = s.miu.imbalance ∧
    (billPulse s).miu.reverse = s.miu.reverse ∧
    (billPulse s).miu.flashPending = s.miu.flashPending ∧
    (billPulse s).miu.flashSlot = s.miu.flashSlot ∧
    (billPulse s).miu.wLim = s.miu.wLim ∧
    (billPulse s).tmn.cover = s.tmn.cover ∧
    (billPulse s).tmn.terminal = s.tmn.terminal ∧
    (billPulse s).tmn.magnet = s.tmn.magnet := by
  unfold billPulse
  dsimp only
  repeat' split
  all_goals simp

@[simp] theorem standingCharge_parts (s : State) :
    (standingCharge s).lkp.rx = s.lkp.rx ∧
    (standingCharge s).lkp.inService = s.lkp.inService ∧
    (standingCharge s).lkp.outbox = s.lkp.outbox ∧
    (standingCharge s).stc.journal = s.stc.journal ∧
    (standingCharge s).stc.checkpoints = s.stc.checkpoints ∧
    (standingCharge s).stc.newest = s.stc.newest ∧
    (standingCharge s).stc.nextCheckpoint = s.stc.nextCheckpoint ∧
    (standingCharge s).stc.nextJournal = s.stc.nextJournal ∧
    (standingCharge s).stc.newestJournal = s.stc.newestJournal ∧
    (standingCharge s).stc.newestNumber = s.stc.newestNumber ∧
    (standingCharge s).stc.unfolded = s.stc.unfolded ∧
    (standingCharge s).stc.health = s.stc.health ∧
    (standingCharge s).stc.saveWaiting = s.stc.saveWaiting ∧
    (standingCharge s).stc.journalWaiting = s.stc.journalWaiting ∧
    (standingCharge s).stc.write = s.stc.write ∧
    (standingCharge s).miu.line = s.miu.line ∧
    (standingCharge s).miu.ret = s.miu.ret ∧
    (standingCharge s).miu.imbRun = s.miu.imbRun ∧
    (standingCharge s).miu.balRun = s.miu.balRun ∧
    (standingCharge s).miu.imbalance = s.miu.imbalance ∧
    (standingCharge s).miu.reverse = s.miu.reverse ∧
    (standingCharge s).miu.flashPending = s.miu.flashPending ∧
    (standingCharge s).miu.flashSlot = s.miu.flashSlot ∧
    (standingCharge s).miu.wLim = s.miu.wLim ∧
    (standingCharge s).tmn.cover = s.tmn.cover ∧
    (standingCharge s).tmn.terminal = s.tmn.terminal ∧
    (standingCharge s).tmn.magnet = s.tmn.magnet := by
  simp [standingCharge]

@[simp] theorem aceTick_parts (named : Option Nat) (s : State) :
    (aceTick named s).lkp.rx = s.lkp.rx ∧
    (aceTick named s).lkp.inService = s.lkp.inService ∧
    (aceTick named s).lkp.outbox = s.lkp.outbox ∧
    (aceTick named s).stc.journal = s.stc.journal ∧
    (aceTick named s).stc.checkpoints = s.stc.checkpoints ∧
    (aceTick named s).stc.newest = s.stc.newest ∧
    (aceTick named s).stc.nextCheckpoint = s.stc.nextCheckpoint ∧
    (aceTick named s).stc.nextJournal = s.stc.nextJournal ∧
    (aceTick named s).stc.newestJournal = s.stc.newestJournal ∧
    (aceTick named s).stc.newestNumber = s.stc.newestNumber ∧
    (aceTick named s).stc.unfolded = s.stc.unfolded ∧
    (aceTick named s).stc.health = s.stc.health ∧
    (aceTick named s).stc.saveWaiting = s.stc.saveWaiting ∧
    (aceTick named s).stc.journalWaiting = s.stc.journalWaiting ∧
    (aceTick named s).stc.write = s.stc.write ∧
    (aceTick named s).miu.line = s.miu.line ∧
    (aceTick named s).miu.ret = s.miu.ret ∧
    (aceTick named s).miu.imbRun = s.miu.imbRun ∧
    (aceTick named s).miu.balRun = s.miu.balRun ∧
    (aceTick named s).miu.imbalance = s.miu.imbalance ∧
    (aceTick named s).miu.reverse = s.miu.reverse ∧
    (aceTick named s).miu.flashPending = s.miu.flashPending ∧
    (aceTick named s).miu.flashSlot = s.miu.flashSlot ∧
    (aceTick named s).miu.wLim = s.miu.wLim ∧
    (aceTick named s).tmn.cover = s.tmn.cover ∧
    (aceTick named s).tmn.terminal = s.tmn.terminal ∧
    (aceTick named s).tmn.magnet = s.tmn.magnet := by
  unfold aceTick
  dsimp only
  repeat' split
  all_goals simp

@[simp] theorem topUp_parts (amount : Nat) (s : State) :
    (topUp amount s).lkp.rx = s.lkp.rx ∧
    (topUp amount s).lkp.inService = s.lkp.inService ∧
    (topUp amount s).lkp.outbox = s.lkp.outbox ∧
    (topUp amount s).stc.journal = s.stc.journal ∧
    (topUp amount s).stc.checkpoints = s.stc.checkpoints ∧
    (topUp amount s).stc.newest = s.stc.newest ∧
    (topUp amount s).stc.nextCheckpoint = s.stc.nextCheckpoint ∧
    (topUp amount s).stc.nextJournal = s.stc.nextJournal ∧
    (topUp amount s).stc.newestJournal = s.stc.newestJournal ∧
    (topUp amount s).stc.newestNumber = s.stc.newestNumber ∧
    (topUp amount s).stc.unfolded = s.stc.unfolded ∧
    (topUp amount s).stc.health = s.stc.health ∧
    (topUp amount s).stc.saveWaiting = s.stc.saveWaiting ∧
    (topUp amount s).stc.journalWaiting = s.stc.journalWaiting ∧
    (topUp amount s).stc.write = s.stc.write ∧
    (topUp amount s).miu.line = s.miu.line ∧
    (topUp amount s).miu.ret = s.miu.ret ∧
    (topUp amount s).miu.imbRun = s.miu.imbRun ∧
    (topUp amount s).miu.balRun = s.miu.balRun ∧
    (topUp amount s).miu.imbalance = s.miu.imbalance ∧
    (topUp amount s).miu.reverse = s.miu.reverse ∧
    (topUp amount s).miu.flashPending = s.miu.flashPending ∧
    (topUp amount s).miu.flashSlot = s.miu.flashSlot ∧
    (topUp amount s).miu.wLim = s.miu.wLim ∧
    (topUp amount s).tmn.cover = s.tmn.cover ∧
    (topUp amount s).tmn.terminal = s.tmn.terminal ∧
    (topUp amount s).tmn.magnet = s.tmn.magnet := by
  simp [topUp]

@[simp] theorem takeEmergency_parts (s : State) :
    (takeEmergency s).lkp.rx = s.lkp.rx ∧
    (takeEmergency s).lkp.inService = s.lkp.inService ∧
    (takeEmergency s).lkp.outbox = s.lkp.outbox ∧
    (takeEmergency s).stc.journal = s.stc.journal ∧
    (takeEmergency s).stc.checkpoints = s.stc.checkpoints ∧
    (takeEmergency s).stc.newest = s.stc.newest ∧
    (takeEmergency s).stc.nextCheckpoint = s.stc.nextCheckpoint ∧
    (takeEmergency s).stc.nextJournal = s.stc.nextJournal ∧
    (takeEmergency s).stc.newestJournal = s.stc.newestJournal ∧
    (takeEmergency s).stc.newestNumber = s.stc.newestNumber ∧
    (takeEmergency s).stc.unfolded = s.stc.unfolded ∧
    (takeEmergency s).stc.health = s.stc.health ∧
    (takeEmergency s).stc.saveWaiting = s.stc.saveWaiting ∧
    (takeEmergency s).stc.journalWaiting = s.stc.journalWaiting ∧
    (takeEmergency s).stc.write = s.stc.write ∧
    (takeEmergency s).miu.line = s.miu.line ∧
    (takeEmergency s).miu.ret = s.miu.ret ∧
    (takeEmergency s).miu.imbRun = s.miu.imbRun ∧
    (takeEmergency s).miu.balRun = s.miu.balRun ∧
    (takeEmergency s).miu.imbalance = s.miu.imbalance ∧
    (takeEmergency s).miu.reverse = s.miu.reverse ∧
    (takeEmergency s).miu.flashPending = s.miu.flashPending ∧
    (takeEmergency s).miu.flashSlot = s.miu.flashSlot ∧
    (takeEmergency s).miu.wLim = s.miu.wLim ∧
    (takeEmergency s).tmn.cover = s.tmn.cover ∧
    (takeEmergency s).tmn.terminal = s.tmn.terminal ∧
    (takeEmergency s).tmn.magnet = s.tmn.magnet := by
  unfold takeEmergency
  repeat' split
  all_goals simp

@[simp] theorem setEmergency_parts (u : Nat) (s : State) :
    (setEmergency u s).lkp.rx = s.lkp.rx ∧
    (setEmergency u s).lkp.inService = s.lkp.inService ∧
    (setEmergency u s).lkp.outbox = s.lkp.outbox := by
  simp [setEmergency]

@[simp] theorem setLowThreshold_parts (u : Nat) (s : State) :
    (setLowThreshold u s).lkp.rx = s.lkp.rx ∧
    (setLowThreshold u s).lkp.inService = s.lkp.inService ∧
    (setLowThreshold u s).lkp.outbox = s.lkp.outbox := by
  simp [setLowThreshold]

@[simp] theorem judgeBand_parts (s : State) :
    (judgeBand s).lkp.rx = s.lkp.rx ∧
    (judgeBand s).lkp.inService = s.lkp.inService ∧
    (judgeBand s).lkp.outbox = s.lkp.outbox ∧
    (judgeBand s).stc.journal = s.stc.journal ∧
    (judgeBand s).stc.checkpoints = s.stc.checkpoints ∧
    (judgeBand s).stc.newest = s.stc.newest ∧
    (judgeBand s).stc.nextCheckpoint = s.stc.nextCheckpoint ∧
    (judgeBand s).stc.nextJournal = s.stc.nextJournal ∧
    (judgeBand s).stc.newestJournal = s.stc.newestJournal ∧
    (judgeBand s).stc.newestNumber = s.stc.newestNumber ∧
    (judgeBand s).stc.unfolded = s.stc.unfolded ∧
    (judgeBand s).stc.health = s.stc.health ∧
    (judgeBand s).stc.saveWaiting = s.stc.saveWaiting ∧
    (judgeBand s).stc.journalWaiting = s.stc.journalWaiting ∧
    (judgeBand s).stc.write = s.stc.write ∧
    (judgeBand s).miu.line = s.miu.line ∧
    (judgeBand s).miu.ret = s.miu.ret ∧
    (judgeBand s).miu.imbRun = s.miu.imbRun ∧
    (judgeBand s).miu.balRun = s.miu.balRun ∧
    (judgeBand s).miu.imbalance = s.miu.imbalance ∧
    (judgeBand s).miu.reverse = s.miu.reverse ∧
    (judgeBand s).miu.flashPending = s.miu.flashPending ∧
    (judgeBand s).miu.flashSlot = s.miu.flashSlot ∧
    (judgeBand s).miu.wLim = s.miu.wLim ∧
    (judgeBand s).tmn.cover = s.tmn.cover ∧
    (judgeBand s).tmn.terminal = s.tmn.terminal ∧
    (judgeBand s).tmn.magnet = s.tmn.magnet := by
  unfold judgeBand
  dsimp only
  repeat' split
  all_goals simp

@[simp] theorem activateTariff_parts (t : Tariff) (s : State) :
    (activateTariff t s).lkp.rx = s.lkp.rx ∧
    (activateTariff t s).lkp.inService = s.lkp.inService ∧
    (activateTariff t s).lkp.outbox = s.lkp.outbox ∧
    (activateTariff t s).stc.journal = s.stc.journal ∧
    (activateTariff t s).stc.checkpoints = s.stc.checkpoints ∧
    (activateTariff t s).stc.newest = s.stc.newest ∧
    (activateTariff t s).stc.nextCheckpoint = s.stc.nextCheckpoint ∧
    (activateTariff t s).stc.nextJournal = s.stc.nextJournal ∧
    (activateTariff t s).stc.newestJournal = s.stc.newestJournal ∧
    (activateTariff t s).stc.newestNumber = s.stc.newestNumber ∧
    (activateTariff t s).stc.unfolded = s.stc.unfolded ∧
    (activateTariff t s).stc.health = s.stc.health ∧
    (activateTariff t s).stc.saveWaiting = s.stc.saveWaiting ∧
    (activateTariff t s).stc.journalWaiting = s.stc.journalWaiting ∧
    (activateTariff t s).stc.write = s.stc.write ∧
    (activateTariff t s).miu.line = s.miu.line ∧
    (activateTariff t s).miu.ret = s.miu.ret ∧
    (activateTariff t s).miu.imbRun = s.miu.imbRun ∧
    (activateTariff t s).miu.balRun = s.miu.balRun ∧
    (activateTariff t s).miu.imbalance = s.miu.imbalance ∧
    (activateTariff t s).miu.reverse = s.miu.reverse ∧
    (activateTariff t s).miu.flashPending = s.miu.flashPending ∧
    (activateTariff t s).miu.flashSlot = s.miu.flashSlot ∧
    (activateTariff t s).miu.wLim = s.miu.wLim ∧
    (activateTariff t s).tmn.cover = s.tmn.cover ∧
    (activateTariff t s).tmn.terminal = s.tmn.terminal ∧
    (activateTariff t s).tmn.magnet = s.tmn.magnet := by
  simp [activateTariff]

@[simp] theorem activateAtTick_parts (t : Tariff) (s : State) :
    (activateAtTick t s).lkp.rx = s.lkp.rx ∧
    (activateAtTick t s).lkp.inService = s.lkp.inService ∧
    (activateAtTick t s).lkp.outbox = s.lkp.outbox ∧
    (activateAtTick t s).stc.journal = s.stc.journal ∧
    (activateAtTick t s).stc.checkpoints = s.stc.checkpoints ∧
    (activateAtTick t s).stc.newest = s.stc.newest ∧
    (activateAtTick t s).stc.nextCheckpoint = s.stc.nextCheckpoint ∧
    (activateAtTick t s).stc.nextJournal = s.stc.nextJournal ∧
    (activateAtTick t s).stc.newestJournal = s.stc.newestJournal ∧
    (activateAtTick t s).stc.newestNumber = s.stc.newestNumber ∧
    (activateAtTick t s).stc.unfolded = s.stc.unfolded ∧
    (activateAtTick t s).stc.health = s.stc.health ∧
    (activateAtTick t s).stc.saveWaiting = s.stc.saveWaiting ∧
    (activateAtTick t s).stc.journalWaiting = s.stc.journalWaiting ∧
    (activateAtTick t s).stc.write = s.stc.write ∧
    (activateAtTick t s).miu.line = s.miu.line ∧
    (activateAtTick t s).miu.ret = s.miu.ret ∧
    (activateAtTick t s).miu.imbRun = s.miu.imbRun ∧
    (activateAtTick t s).miu.balRun = s.miu.balRun ∧
    (activateAtTick t s).miu.imbalance = s.miu.imbalance ∧
    (activateAtTick t s).miu.reverse = s.miu.reverse ∧
    (activateAtTick t s).miu.flashPending = s.miu.flashPending ∧
    (activateAtTick t s).miu.flashSlot = s.miu.flashSlot ∧
    (activateAtTick t s).miu.wLim = s.miu.wLim ∧
    (activateAtTick t s).tmn.cover = s.tmn.cover ∧
    (activateAtTick t s).tmn.terminal = s.tmn.terminal ∧
    (activateAtTick t s).tmn.magnet = s.tmn.magnet := by
  unfold activateAtTick
  dsimp only
  repeat' split
  all_goals simp

@[simp] theorem activateIfReached_parts (q : Nat) (s : State) :
    (activateIfReached q s).lkp.rx = s.lkp.rx ∧
    (activateIfReached q s).lkp.inService = s.lkp.inService ∧
    (activateIfReached q s).lkp.outbox = s.lkp.outbox ∧
    (activateIfReached q s).stc.journal = s.stc.journal ∧
    (activateIfReached q s).stc.checkpoints = s.stc.checkpoints ∧
    (activateIfReached q s).stc.newest = s.stc.newest ∧
    (activateIfReached q s).stc.nextCheckpoint = s.stc.nextCheckpoint ∧
    (activateIfReached q s).stc.nextJournal = s.stc.nextJournal ∧
    (activateIfReached q s).stc.newestJournal = s.stc.newestJournal ∧
    (activateIfReached q s).stc.newestNumber = s.stc.newestNumber ∧
    (activateIfReached q s).stc.unfolded = s.stc.unfolded ∧
    (activateIfReached q s).stc.health = s.stc.health ∧
    (activateIfReached q s).stc.saveWaiting = s.stc.saveWaiting ∧
    (activateIfReached q s).stc.journalWaiting = s.stc.journalWaiting ∧
    (activateIfReached q s).stc.write = s.stc.write ∧
    (activateIfReached q s).miu.line = s.miu.line ∧
    (activateIfReached q s).miu.ret = s.miu.ret ∧
    (activateIfReached q s).miu.imbRun = s.miu.imbRun ∧
    (activateIfReached q s).miu.balRun = s.miu.balRun ∧
    (activateIfReached q s).miu.imbalance = s.miu.imbalance ∧
    (activateIfReached q s).miu.reverse = s.miu.reverse ∧
    (activateIfReached q s).miu.flashPending = s.miu.flashPending ∧
    (activateIfReached q s).miu.flashSlot = s.miu.flashSlot ∧
    (activateIfReached q s).miu.wLim = s.miu.wLim ∧
    (activateIfReached q s).tmn.cover = s.tmn.cover ∧
    (activateIfReached q s).tmn.terminal = s.tmn.terminal ∧
    (activateIfReached q s).tmn.magnet = s.tmn.magnet := by
  unfold activateIfReached
  repeat' split
  all_goals simp

@[simp] theorem resetTripDay_parts (s : State) :
    (resetTripDay s).lkp.rx = s.lkp.rx ∧
    (resetTripDay s).lkp.inService = s.lkp.inService ∧
    (resetTripDay s).lkp.outbox = s.lkp.outbox ∧
    (resetTripDay s).stc.journal = s.stc.journal ∧
    (resetTripDay s).stc.checkpoints = s.stc.checkpoints ∧
    (resetTripDay s).stc.newest = s.stc.newest ∧
    (resetTripDay s).stc.nextCheckpoint = s.stc.nextCheckpoint ∧
    (resetTripDay s).stc.nextJournal = s.stc.nextJournal ∧
    (resetTripDay s).stc.newestJournal = s.stc.newestJournal ∧
    (resetTripDay s).stc.newestNumber = s.stc.newestNumber ∧
    (resetTripDay s).stc.unfolded = s.stc.unfolded ∧
    (resetTripDay s).stc.health = s.stc.health ∧
    (resetTripDay s).stc.saveWaiting = s.stc.saveWaiting ∧
    (resetTripDay s).stc.journalWaiting = s.stc.journalWaiting ∧
    (resetTripDay s).stc.write = s.stc.write ∧
    (resetTripDay s).miu.line = s.miu.line ∧
    (resetTripDay s).miu.ret = s.miu.ret ∧
    (resetTripDay s).miu.imbRun = s.miu.imbRun ∧
    (resetTripDay s).miu.balRun = s.miu.balRun ∧
    (resetTripDay s).miu.imbalance = s.miu.imbalance ∧
    (resetTripDay s).miu.reverse = s.miu.reverse ∧
    (resetTripDay s).miu.flashPending = s.miu.flashPending ∧
    (resetTripDay s).miu.flashSlot = s.miu.flashSlot ∧
    (resetTripDay s).miu.wLim = s.miu.wLim ∧
    (resetTripDay s).tmn.cover = s.tmn.cover ∧
    (resetTripDay s).tmn.terminal = s.tmn.terminal ∧
    (resetTripDay s).tmn.magnet = s.tmn.magnet := by
  unfold resetTripDay
  dsimp only
  repeat' split
  all_goals simp

@[simp] theorem sscTick_parts (named : Option Nat) (s : State) :
    (sscTick named s).lkp.rx = s.lkp.rx ∧
    (sscTick named s).lkp.inService = s.lkp.inService ∧
    (sscTick named s).lkp.outbox = s.lkp.outbox ∧
    (sscTick named s).stc.journal = s.stc.journal ∧
    (sscTick named s).stc.checkpoints = s.stc.checkpoints ∧
    (sscTick named s).stc.newest = s.stc.newest ∧
    (sscTick named s).stc.nextCheckpoint = s.stc.nextCheckpoint ∧
    (sscTick named s).stc.nextJournal = s.stc.nextJournal ∧
    (sscTick named s).stc.newestJournal = s.stc.newestJournal ∧
    (sscTick named s).stc.newestNumber = s.stc.newestNumber ∧
    (sscTick named s).stc.unfolded = s.stc.unfolded ∧
    (sscTick named s).stc.health = s.stc.health ∧
    (sscTick named s).stc.saveWaiting = s.stc.saveWaiting ∧
    (sscTick named s).stc.journalWaiting = s.stc.journalWaiting ∧
    (sscTick named s).stc.write = s.stc.write ∧
    (sscTick named s).miu.line = s.miu.line ∧
    (sscTick named s).miu.ret = s.miu.ret ∧
    (sscTick named s).miu.imbRun = s.miu.imbRun ∧
    (sscTick named s).miu.balRun = s.miu.balRun ∧
    (sscTick named s).miu.imbalance = s.miu.imbalance ∧
    (sscTick named s).miu.reverse = s.miu.reverse ∧
    (sscTick named s).miu.flashPending = s.miu.flashPending ∧
    (sscTick named s).miu.flashSlot = s.miu.flashSlot ∧
    (sscTick named s).miu.wLim = s.miu.wLim ∧
    (sscTick named s).tmn.cover = s.tmn.cover ∧
    (sscTick named s).tmn.terminal = s.tmn.terminal ∧
    (sscTick named s).tmn.magnet = s.tmn.magnet := by
  unfold sscTick
  repeat' split
  all_goals simp

@[simp] theorem tickActivates_parts (named : Option Nat) (s : State) :
    (tickActivates named s).lkp.rx = s.lkp.rx ∧
    (tickActivates named s).lkp.inService = s.lkp.inService ∧
    (tickActivates named s).lkp.outbox = s.lkp.outbox ∧
    (tickActivates named s).stc.journal = s.stc.journal ∧
    (tickActivates named s).stc.checkpoints = s.stc.checkpoints ∧
    (tickActivates named s).stc.newest = s.stc.newest ∧
    (tickActivates named s).stc.nextCheckpoint = s.stc.nextCheckpoint ∧
    (tickActivates named s).stc.nextJournal = s.stc.nextJournal ∧
    (tickActivates named s).stc.newestJournal = s.stc.newestJournal ∧
    (tickActivates named s).stc.newestNumber = s.stc.newestNumber ∧
    (tickActivates named s).stc.unfolded = s.stc.unfolded ∧
    (tickActivates named s).stc.health = s.stc.health ∧
    (tickActivates named s).stc.saveWaiting = s.stc.saveWaiting ∧
    (tickActivates named s).stc.journalWaiting = s.stc.journalWaiting ∧
    (tickActivates named s).stc.write = s.stc.write ∧
    (tickActivates named s).miu.line = s.miu.line ∧
    (tickActivates named s).miu.ret = s.miu.ret ∧
    (tickActivates named s).miu.imbRun = s.miu.imbRun ∧
    (tickActivates named s).miu.balRun = s.miu.balRun ∧
    (tickActivates named s).miu.imbalance = s.miu.imbalance ∧
    (tickActivates named s).miu.reverse = s.miu.reverse ∧
    (tickActivates named s).miu.flashPending = s.miu.flashPending ∧
    (tickActivates named s).miu.flashSlot = s.miu.flashSlot ∧
    (tickActivates named s).miu.wLim = s.miu.wLim ∧
    (tickActivates named s).tmn.cover = s.tmn.cover ∧
    (tickActivates named s).tmn.terminal = s.tmn.terminal ∧
    (tickActivates named s).tmn.magnet = s.tmn.magnet := by
  unfold tickActivates
  repeat' split
  all_goals simp

@[simp] theorem handleTick_parts (named : Option Nat) (s : State) :
    (handleTick named s).lkp.rx = s.lkp.rx ∧
    (handleTick named s).lkp.inService = s.lkp.inService ∧
    (handleTick named s).lkp.outbox = s.lkp.outbox ∧
    (handleTick named s).stc.journal = s.stc.journal ∧
    (handleTick named s).stc.checkpoints = s.stc.checkpoints ∧
    (handleTick named s).stc.newest = s.stc.newest ∧
    (handleTick named s).stc.nextCheckpoint = s.stc.nextCheckpoint ∧
    (handleTick named s).stc.nextJournal = s.stc.nextJournal ∧
    (handleTick named s).stc.newestJournal = s.stc.newestJournal ∧
    (handleTick named s).stc.newestNumber = s.stc.newestNumber ∧
    (handleTick named s).stc.unfolded = s.stc.unfolded ∧
    (handleTick named s).stc.health = s.stc.health ∧
    (handleTick named s).stc.saveWaiting = s.stc.saveWaiting ∧
    (handleTick named s).stc.journalWaiting = s.stc.journalWaiting ∧
    (handleTick named s).stc.write = s.stc.write ∧
    (handleTick named s).miu.line = s.miu.line ∧
    (handleTick named s).miu.ret = s.miu.ret ∧
    (handleTick named s).miu.imbRun = s.miu.imbRun ∧
    (handleTick named s).miu.balRun = s.miu.balRun ∧
    (handleTick named s).miu.imbalance = s.miu.imbalance ∧
    (handleTick named s).miu.reverse = s.miu.reverse ∧
    (handleTick named s).miu.flashPending = s.miu.flashPending ∧
    (handleTick named s).miu.flashSlot = s.miu.flashSlot ∧
    (handleTick named s).miu.wLim = s.miu.wLim ∧
    (handleTick named s).tmn.cover = s.tmn.cover ∧
    (handleTick named s).tmn.terminal = s.tmn.terminal ∧
    (handleTick named s).tmn.magnet = s.tmn.magnet := by
  simp [handleTick]

@[simp] theorem takeIssuedTick_parts (s : State) :
    (takeIssuedTick s).lkp.rx = s.lkp.rx ∧
    (takeIssuedTick s).lkp.inService = s.lkp.inService ∧
    (takeIssuedTick s).lkp.outbox = s.lkp.outbox ∧
    (takeIssuedTick s).stc.journal = s.stc.journal ∧
    (takeIssuedTick s).stc.checkpoints = s.stc.checkpoints ∧
    (takeIssuedTick s).stc.newest = s.stc.newest ∧
    (takeIssuedTick s).stc.nextCheckpoint = s.stc.nextCheckpoint ∧
    (takeIssuedTick s).stc.nextJournal = s.stc.nextJournal ∧
    (takeIssuedTick s).stc.newestJournal = s.stc.newestJournal ∧
    (takeIssuedTick s).stc.newestNumber = s.stc.newestNumber ∧
    (takeIssuedTick s).stc.unfolded = s.stc.unfolded ∧
    (takeIssuedTick s).stc.health = s.stc.health ∧
    (takeIssuedTick s).stc.saveWaiting = s.stc.saveWaiting ∧
    (takeIssuedTick s).stc.journalWaiting = s.stc.journalWaiting ∧
    (takeIssuedTick s).stc.write = s.stc.write ∧
    (takeIssuedTick s).miu.line = s.miu.line ∧
    (takeIssuedTick s).miu.ret = s.miu.ret ∧
    (takeIssuedTick s).miu.imbRun = s.miu.imbRun ∧
    (takeIssuedTick s).miu.balRun = s.miu.balRun ∧
    (takeIssuedTick s).miu.imbalance = s.miu.imbalance ∧
    (takeIssuedTick s).miu.reverse = s.miu.reverse ∧
    (takeIssuedTick s).miu.flashPending = s.miu.flashPending ∧
    (takeIssuedTick s).miu.flashSlot = s.miu.flashSlot ∧
    (takeIssuedTick s).miu.wLim = s.miu.wLim ∧
    (takeIssuedTick s).tmn.cover = s.tmn.cover ∧
    (takeIssuedTick s).tmn.terminal = s.tmn.terminal ∧
    (takeIssuedTick s).tmn.magnet = s.tmn.magnet := by
  unfold takeIssuedTick
  repeat' split
  all_goals simp

@[simp] theorem catchUp_parts (n : Nat) (s : State) :
    (catchUp n s).lkp.rx = s.lkp.rx ∧
    (catchUp n s).lkp.inService = s.lkp.inService ∧
    (catchUp n s).lkp.outbox = s.lkp.outbox ∧
    (catchUp n s).stc.journal = s.stc.journal ∧
    (catchUp n s).stc.checkpoints = s.stc.checkpoints ∧
    (catchUp n s).stc.newest = s.stc.newest ∧
    (catchUp n s).stc.nextCheckpoint = s.stc.nextCheckpoint ∧
    (catchUp n s).stc.nextJournal = s.stc.nextJournal ∧
    (catchUp n s).stc.newestJournal = s.stc.newestJournal ∧
    (catchUp n s).stc.newestNumber = s.stc.newestNumber ∧
    (catchUp n s).stc.unfolded = s.stc.unfolded ∧
    (catchUp n s).stc.health = s.stc.health ∧
    (catchUp n s).stc.saveWaiting = s.stc.saveWaiting ∧
    (catchUp n s).stc.journalWaiting = s.stc.journalWaiting ∧
    (catchUp n s).stc.write = s.stc.write ∧
    (catchUp n s).miu.line = s.miu.line ∧
    (catchUp n s).miu.ret = s.miu.ret ∧
    (catchUp n s).miu.imbRun = s.miu.imbRun ∧
    (catchUp n s).miu.balRun = s.miu.balRun ∧
    (catchUp n s).miu.imbalance = s.miu.imbalance ∧
    (catchUp n s).miu.reverse = s.miu.reverse ∧
    (catchUp n s).miu.flashPending = s.miu.flashPending ∧
    (catchUp n s).miu.flashSlot = s.miu.flashSlot ∧
    (catchUp n s).miu.wLim = s.miu.wLim ∧
    (catchUp n s).tmn.cover = s.tmn.cover ∧
    (catchUp n s).tmn.terminal = s.tmn.terminal ∧
    (catchUp n s).tmn.magnet = s.tmn.magnet := by
  induction n generalizing s with
  | zero => simp [catchUp]
  | succ n ih => simp [catchUp, ih]

@[simp] theorem setClock_parts (count : Nat) (s : State) :
    (setClock count s).lkp.rx = s.lkp.rx ∧
    (setClock count s).lkp.inService = s.lkp.inService ∧
    (setClock count s).lkp.outbox = s.lkp.outbox ∧
    (setClock count s).stc.journal = s.stc.journal ∧
    (setClock count s).stc.checkpoints = s.stc.checkpoints ∧
    (setClock count s).stc.newest = s.stc.newest ∧
    (setClock count s).stc.nextCheckpoint = s.stc.nextCheckpoint ∧
    (setClock count s).stc.nextJournal = s.stc.nextJournal ∧
    (setClock count s).stc.newestJournal = s.stc.newestJournal ∧
    (setClock count s).stc.newestNumber = s.stc.newestNumber ∧
    (setClock count s).stc.unfolded = s.stc.unfolded ∧
    (setClock count s).stc.health = s.stc.health ∧
    (setClock count s).stc.saveWaiting = s.stc.saveWaiting ∧
    (setClock count s).stc.journalWaiting = s.stc.journalWaiting ∧
    (setClock count s).stc.write = s.stc.write ∧
    (setClock count s).miu.line = s.miu.line ∧
    (setClock count s).miu.ret = s.miu.ret ∧
    (setClock count s).miu.imbRun = s.miu.imbRun ∧
    (setClock count s).miu.balRun = s.miu.balRun ∧
    (setClock count s).miu.imbalance = s.miu.imbalance ∧
    (setClock count s).miu.reverse = s.miu.reverse ∧
    (setClock count s).miu.flashPending = s.miu.flashPending ∧
    (setClock count s).miu.flashSlot = s.miu.flashSlot ∧
    (setClock count s).miu.wLim = s.miu.wLim ∧
    (setClock count s).tmn.cover = s.tmn.cover ∧
    (setClock count s).tmn.terminal = s.tmn.terminal ∧
    (setClock count s).tmn.magnet = s.tmn.magnet := by
  simp [setClock]

@[simp] theorem trimClock_parts (a : Int) (s : State) :
    (trimClock a s).2.lkp.rx = s.lkp.rx ∧
    (trimClock a s).2.lkp.inService = s.lkp.inService ∧
    (trimClock a s).2.lkp.outbox = s.lkp.outbox ∧
    (trimClock a s).2.stc.journal = s.stc.journal ∧
    (trimClock a s).2.stc.checkpoints = s.stc.checkpoints ∧
    (trimClock a s).2.stc.newest = s.stc.newest ∧
    (trimClock a s).2.stc.nextCheckpoint = s.stc.nextCheckpoint ∧
    (trimClock a s).2.stc.nextJournal = s.stc.nextJournal ∧
    (trimClock a s).2.stc.newestJournal = s.stc.newestJournal ∧
    (trimClock a s).2.stc.newestNumber = s.stc.newestNumber ∧
    (trimClock a s).2.stc.unfolded = s.stc.unfolded ∧
    (trimClock a s).2.stc.health = s.stc.health ∧
    (trimClock a s).2.stc.saveWaiting = s.stc.saveWaiting ∧
    (trimClock a s).2.stc.journalWaiting = s.stc.journalWaiting ∧
    (trimClock a s).2.stc.write = s.stc.write ∧
    (trimClock a s).2.miu.line = s.miu.line ∧
    (trimClock a s).2.miu.ret = s.miu.ret ∧
    (trimClock a s).2.miu.imbRun = s.miu.imbRun ∧
    (trimClock a s).2.miu.balRun = s.miu.balRun ∧
    (trimClock a s).2.miu.imbalance = s.miu.imbalance ∧
    (trimClock a s).2.miu.reverse = s.miu.reverse ∧
    (trimClock a s).2.miu.flashPending = s.miu.flashPending ∧
    (trimClock a s).2.miu.flashSlot = s.miu.flashSlot ∧
    (trimClock a s).2.miu.wLim = s.miu.wLim ∧
    (trimClock a s).2.tmn.cover = s.tmn.cover ∧
    (trimClock a s).2.tmn.terminal = s.tmn.terminal ∧
    (trimClock a s).2.tmn.magnet = s.tmn.magnet := by
  unfold trimClock
  dsimp only
  repeat' split
  all_goals simp

@[simp] theorem queueFlash_parts (s : State) :
    (queueFlash s).miu.line = s.miu.line ∧
    (queueFlash s).miu.ret = s.miu.ret ∧
    (queueFlash s).miu.imbRun = s.miu.imbRun ∧
    (queueFlash s).miu.balRun = s.miu.balRun ∧
    (queueFlash s).miu.imbalance = s.miu.imbalance ∧
    (queueFlash s).miu.reverse = s.miu.reverse ∧
    (queueFlash s).miu.flashSlot = s.miu.flashSlot ∧
    (queueFlash s).miu.wLim = s.miu.wLim := by
  simp [queueFlash]

@[simp] theorem billPulses_parts (n : Nat) (s : State) :
    (billPulses n s).lkp.rx = s.lkp.rx ∧
    (billPulses n s).lkp.inService = s.lkp.inService ∧
    (billPulses n s).lkp.outbox = s.lkp.outbox ∧
    (billPulses n s).stc.journal = s.stc.journal ∧
    (billPulses n s).stc.checkpoints = s.stc.checkpoints ∧
    (billPulses n s).stc.newest = s.stc.newest ∧
    (billPulses n s).stc.nextCheckpoint = s.stc.nextCheckpoint ∧
    (billPulses n s).stc.nextJournal = s.stc.nextJournal ∧
    (billPulses n s).stc.newestJournal = s.stc.newestJournal ∧
    (billPulses n s).stc.newestNumber = s.stc.newestNumber ∧
    (billPulses n s).stc.unfolded = s.stc.unfolded ∧
    (billPulses n s).stc.health = s.stc.health ∧
    (billPulses n s).stc.saveWaiting = s.stc.saveWaiting ∧
    (billPulses n s).stc.journalWaiting = s.stc.journalWaiting ∧
    (billPulses n s).stc.write = s.stc.write ∧
    (billPulses n s).miu.line = s.miu.line ∧
    (billPulses n s).miu.ret = s.miu.ret ∧
    (billPulses n s).miu.imbRun = s.miu.imbRun ∧
    (billPulses n s).miu.balRun = s.miu.balRun ∧
    (billPulses n s).miu.imbalance = s.miu.imbalance ∧
    (billPulses n s).miu.reverse = s.miu.reverse ∧
    (billPulses n s).miu.flashSlot = s.miu.flashSlot ∧
    (billPulses n s).miu.wLim = s.miu.wLim ∧
    (billPulses n s).tmn.cover = s.tmn.cover ∧
    (billPulses n s).tmn.terminal = s.tmn.terminal ∧
    (billPulses n s).tmn.magnet = s.tmn.magnet := by
  induction n generalizing s with
  | zero => simp [billPulses]
  | succ n ih => simp [billPulses, ih]

@[simp] theorem holdPulse_parts (ch : ChannelId) (s : State) :
    (holdPulse ch s).miu.imbRun = s.miu.imbRun ∧
    (holdPulse ch s).miu.balRun = s.miu.balRun ∧
    (holdPulse ch s).miu.imbalance = s.miu.imbalance ∧
    (holdPulse ch s).miu.reverse = s.miu.reverse ∧
    (holdPulse ch s).miu.flashPending = s.miu.flashPending ∧
    (holdPulse ch s).miu.flashSlot = s.miu.flashSlot ∧
    (holdPulse ch s).miu.wLim = s.miu.wLim := by
  simp [holdPulse]

@[simp] theorem overloadTrip_parts (s : State) :
    (overloadTrip s).lkp.rx = s.lkp.rx ∧
    (overloadTrip s).lkp.inService = s.lkp.inService ∧
    (overloadTrip s).lkp.outbox = s.lkp.outbox ∧
    (overloadTrip s).stc.journal = s.stc.journal ∧
    (overloadTrip s).stc.checkpoints = s.stc.checkpoints ∧
    (overloadTrip s).stc.newest = s.stc.newest ∧
    (overloadTrip s).stc.nextCheckpoint = s.stc.nextCheckpoint ∧
    (overloadTrip s).stc.nextJournal = s.stc.nextJournal ∧
    (overloadTrip s).stc.newestJournal = s.stc.newestJournal ∧
    (overloadTrip s).stc.newestNumber = s.stc.newestNumber ∧
    (overloadTrip s).stc.unfolded = s.stc.unfolded ∧
    (overloadTrip s).stc.health = s.stc.health ∧
    (overloadTrip s).stc.saveWaiting = s.stc.saveWaiting ∧
    (overloadTrip s).stc.journalWaiting = s.stc.journalWaiting ∧
    (overloadTrip s).stc.write = s.stc.write ∧
    (overloadTrip s).miu.line = s.miu.line ∧
    (overloadTrip s).miu.ret = s.miu.ret ∧
    (overloadTrip s).miu.imbRun = s.miu.imbRun ∧
    (overloadTrip s).miu.balRun = s.miu.balRun ∧
    (overloadTrip s).miu.imbalance = s.miu.imbalance ∧
    (overloadTrip s).miu.reverse = s.miu.reverse ∧
    (overloadTrip s).miu.flashPending = s.miu.flashPending ∧
    (overloadTrip s).miu.flashSlot = s.miu.flashSlot ∧
    (overloadTrip s).miu.wLim = s.miu.wLim ∧
    (overloadTrip s).tmn.cover = s.tmn.cover ∧
    (overloadTrip s).tmn.terminal = s.tmn.terminal ∧
    (overloadTrip s).tmn.magnet = s.tmn.magnet := by
  unfold overloadTrip
  repeat' split
  all_goals simp

@[simp] theorem raiseOverload_parts (s : State) :
    (raiseOverload s).lkp.rx = s.lkp.rx ∧
    (raiseOverload s).lkp.inService = s.lkp.inService ∧
    (raiseOverload s).lkp.outbox = s.lkp.outbox ∧
    (raiseOverload s).stc.journal = s.stc.journal ∧
    (raiseOverload s).stc.checkpoints = s.stc.checkpoints ∧
    (raiseOverload s).stc.newest = s.stc.newest ∧
    (raiseOverload s).stc.nextCheckpoint = s.stc.nextCheckpoint ∧
    (raiseOverload s).stc.nextJournal = s.stc.nextJournal ∧
    (raiseOverload s).stc.newestJournal = s.stc.newestJournal ∧
    (raiseOverload s).stc.newestNumber = s.stc.newestNumber ∧
    (raiseOverload s).stc.unfolded = s.stc.unfolded ∧
    (raiseOverload s).stc.health = s.stc.health ∧
    (raiseOverload s).stc.saveWaiting = s.stc.saveWaiting ∧
    (raiseOverload s).stc.journalWaiting = s.stc.journalWaiting ∧
    (raiseOverload s).stc.write = s.stc.write ∧
    (raiseOverload s).miu.imbRun = s.miu.imbRun ∧
    (raiseOverload s).miu.balRun = s.miu.balRun ∧
    (raiseOverload s).miu.imbalance = s.miu.imbalance ∧
    (raiseOverload s).miu.reverse = s.miu.reverse ∧
    (raiseOverload s).miu.flashPending = s.miu.flashPending ∧
    (raiseOverload s).miu.flashSlot = s.miu.flashSlot ∧
    (raiseOverload s).miu.wLim = s.miu.wLim ∧
    (raiseOverload s).tmn.cover = s.tmn.cover ∧
    (raiseOverload s).tmn.terminal = s.tmn.terminal ∧
    (raiseOverload s).tmn.magnet = s.tmn.magnet := by
  unfold raiseOverload
  dsimp only
  repeat' split
  all_goals simp

@[simp] theorem updateOverRun_parts (ch : ChannelId) (measured : Option Nat) (p : Nat) (s : State) :
    (updateOverRun ch measured p s).lkp.rx = s.lkp.rx ∧
    (updateOverRun ch measured p s).lkp.inService = s.lkp.inService ∧
    (updateOverRun ch measured p s).lkp.outbox = s.lkp.outbox ∧
    (updateOverRun ch measured p s).stc.journal = s.stc.journal ∧
    (updateOverRun ch measured p s).stc.checkpoints = s.stc.checkpoints ∧
    (updateOverRun ch measured p s).stc.newest = s.stc.newest ∧
    (updateOverRun ch measured p s).stc.nextCheckpoint = s.stc.nextCheckpoint ∧
    (updateOverRun ch measured p s).stc.nextJournal = s.stc.nextJournal ∧
    (updateOverRun ch measured p s).stc.newestJournal = s.stc.newestJournal ∧
    (updateOverRun ch measured p s).stc.newestNumber = s.stc.newestNumber ∧
    (updateOverRun ch measured p s).stc.unfolded = s.stc.unfolded ∧
    (updateOverRun ch measured p s).stc.health = s.stc.health ∧
    (updateOverRun ch measured p s).stc.saveWaiting = s.stc.saveWaiting ∧
    (updateOverRun ch measured p s).stc.journalWaiting = s.stc.journalWaiting ∧
    (updateOverRun ch measured p s).stc.write = s.stc.write ∧
    (updateOverRun ch measured p s).miu.imbRun = s.miu.imbRun ∧
    (updateOverRun ch measured p s).miu.balRun = s.miu.balRun ∧
    (updateOverRun ch measured p s).miu.imbalance = s.miu.imbalance ∧
    (updateOverRun ch measured p s).miu.reverse = s.miu.reverse ∧
    (updateOverRun ch measured p s).miu.flashPending = s.miu.flashPending ∧
    (updateOverRun ch measured p s).miu.flashSlot = s.miu.flashSlot ∧
    (updateOverRun ch measured p s).miu.wLim = s.miu.wLim ∧
    (updateOverRun ch measured p s).tmn.cover = s.tmn.cover ∧
    (updateOverRun ch measured p s).tmn.terminal = s.tmn.terminal ∧
    (updateOverRun ch measured p s).tmn.magnet = s.tmn.magnet := by
  unfold updateOverRun
  dsimp only
  repeat' split
  all_goals simp

@[simp] theorem openWindow_parts (start nL nR : Nat) (s : State) :
    (openWindow start nL nR s).miu.line = s.miu.line ∧
    (openWindow start nL nR s).miu.ret = s.miu.ret ∧
    (openWindow start nL nR s).miu.imbRun = s.miu.imbRun ∧
    (openWindow start nL nR s).miu.balRun = s.miu.balRun ∧
    (openWindow start nL nR s).miu.imbalance = s.miu.imbalance ∧
    (openWindow start nL nR s).miu.reverse = s.miu.reverse ∧
    (openWindow start nL nR s).miu.flashPending = s.miu.flashPending ∧
    (openWindow start nL nR s).miu.flashSlot = s.miu.flashSlot ∧
    (openWindow start nL nR s).miu.wLim = s.miu.wLim := by
  simp [openWindow]

@[simp] theorem judgeImbalance_parts (nL nR : Nat) (s : State) :
    (judgeImbalance nL nR s).lkp.rx = s.lkp.rx ∧
    (judgeImbalance nL nR s).lkp.inService = s.lkp.inService ∧
    (judgeImbalance nL nR s).lkp.outbox = s.lkp.outbox ∧
    (judgeImbalance nL nR s).stc.journal = s.stc.journal ∧
    (judgeImbalance nL nR s).stc.checkpoints = s.stc.checkpoints ∧
    (judgeImbalance nL nR s).stc.newest = s.stc.newest ∧
    (judgeImbalance nL nR s).stc.nextCheckpoint = s.stc.nextCheckpoint ∧
    (judgeImbalance nL nR s).stc.nextJournal = s.stc.nextJournal ∧
    (judgeImbalance nL nR s).stc.newestJournal = s.stc.newestJournal ∧
    (judgeImbalance nL nR s).stc.newestNumber = s.stc.newestNumber ∧
    (judgeImbalance nL nR s).stc.unfolded = s.stc.unfolded ∧
    (judgeImbalance nL nR s).stc.health = s.stc.health ∧
    (judgeImbalance nL nR s).stc.saveWaiting = s.stc.saveWaiting ∧
    (judgeImbalance nL nR s).stc.journalWaiting = s.stc.journalWaiting ∧
    (judgeImbalance nL nR s).stc.write = s.stc.write ∧
    (judgeImbalance nL nR s).miu.line = s.miu.line ∧
    (judgeImbalance nL nR s).miu.ret = s.miu.ret ∧
    (judgeImbalance nL nR s).miu.reverse = s.miu.reverse ∧
    (judgeImbalance nL nR s).miu.flashPending = s.miu.flashPending ∧
    (judgeImbalance nL nR s).miu.flashSlot = s.miu.flashSlot ∧
    (judgeImbalance nL nR s).miu.wLim = s.miu.wLim ∧
    (judgeImbalance nL nR s).tmn.cover = s.tmn.cover ∧
    (judgeImbalance nL nR s).tmn.terminal = s.tmn.terminal ∧
    (judgeImbalance nL nR s).tmn.magnet = s.tmn.magnet := by
  unfold judgeImbalance
  dsimp only
  repeat' split
  all_goals simp

@[simp] theorem judgeReverse_parts (rev : Nat) (s : State) :
    (judgeReverse rev s).lkp.rx = s.lkp.rx ∧
    (judgeReverse rev s).lkp.inService = s.lkp.inService ∧
    (judgeReverse rev s).lkp.outbox = s.lkp.outbox ∧
    (judgeReverse rev s).stc.journal = s.stc.journal ∧
    (judgeReverse rev s).stc.checkpoints = s.stc.checkpoints ∧
    (judgeReverse rev s).stc.newest = s.stc.newest ∧
    (judgeReverse rev s).stc.nextCheckpoint = s.stc.nextCheckpoint ∧
    (judgeReverse rev s).stc.nextJournal = s.stc.nextJournal ∧
    (judgeReverse rev s).stc.newestJournal = s.stc.newestJournal ∧
    (judgeReverse rev s).stc.newestNumber = s.stc.newestNumber ∧
    (judgeReverse rev s).stc.unfolded = s.stc.unfolded ∧
    (judgeReverse rev s).stc.health = s.stc.health ∧
    (judgeReverse rev s).stc.saveWaiting = s.stc.saveWaiting ∧
    (judgeReverse rev s).stc.journalWaiting = s.stc.journalWaiting ∧
    (judgeReverse rev s).stc.write = s.stc.write ∧
    (judgeReverse rev s).miu.line = s.miu.line ∧
    (judgeReverse rev s).miu.ret = s.miu.ret ∧
    (judgeReverse rev s).miu.imbRun = s.miu.imbRun ∧
    (judgeReverse rev s).miu.balRun = s.miu.balRun ∧
    (judgeReverse rev s).miu.imbalance = s.miu.imbalance ∧
    (judgeReverse rev s).miu.flashPending = s.miu.flashPending ∧
    (judgeReverse rev s).miu.flashSlot = s.miu.flashSlot ∧
    (judgeReverse rev s).miu.wLim = s.miu.wLim ∧
    (judgeReverse rev s).tmn.cover = s.tmn.cover ∧
    (judgeReverse rev s).tmn.terminal = s.tmn.terminal ∧
    (judgeReverse rev s).tmn.magnet = s.tmn.magnet := by
  unfold judgeReverse
  repeat' split
  all_goals simp

@[simp] theorem judgeConducting_parts (total : Nat) (s : State) :
    (judgeConducting total s).lkp.rx = s.lkp.rx ∧
    (judgeConducting total s).lkp.inService = s.lkp.inService ∧
    (judgeConducting total s).lkp.outbox = s.lkp.outbox ∧
    (judgeConducting total s).stc.journal = s.stc.journal ∧
    (judgeConducting total s).stc.checkpoints = s.stc.checkpoints ∧
    (judgeConducting total s).stc.newest = s.stc.newest ∧
    (judgeConducting total s).stc.nextCheckpoint = s.stc.nextCheckpoint ∧
    (judgeConducting total s).stc.nextJournal = s.stc.nextJournal ∧
    (judgeConducting total s).stc.newestJournal = s.stc.newestJournal ∧
    (judgeConducting total s).stc.newestNumber = s.stc.newestNumber ∧
    (judgeConducting total s).stc.unfolded = s.stc.unfolded ∧
    (judgeConducting total s).stc.health = s.stc.health ∧
    (judgeConducting total s).stc.saveWaiting = s.stc.saveWaiting ∧
    (judgeConducting total s).stc.journalWaiting = s.stc.journalWaiting ∧
    (judgeConducting total s).stc.write = s.stc.write ∧
    (judgeConducting total s).miu.line = s.miu.line ∧
    (judgeConducting total s).miu.ret = s.miu.ret ∧
    (judgeConducting total s).miu.imbRun = s.miu.imbRun ∧
    (judgeConducting total s).miu.balRun = s.miu.balRun ∧
    (judgeConducting total s).miu.imbalance = s.miu.imbalance ∧
    (judgeConducting total s).miu.reverse = s.miu.reverse ∧
    (judgeConducting total s).miu.flashPending = s.miu.flashPending ∧
    (judgeConducting total s).miu.flashSlot = s.miu.flashSlot ∧
    (judgeConducting total s).miu.wLim = s.miu.wLim ∧
    (judgeConducting total s).tmn.cover = s.tmn.cover ∧
    (judgeConducting total s).tmn.terminal = s.tmn.terminal ∧
    (judgeConducting total s).tmn.magnet = s.tmn.magnet := by
  unfold judgeConducting
  dsimp only
  repeat' split
  all_goals simp

@[simp] theorem expireWindow_parts (w : Window) (s : State) :
    (expireWindow w s).lkp.rx = s.lkp.rx ∧
    (expireWindow w s).lkp.inService = s.lkp.inService ∧
    (expireWindow w s).lkp.outbox = s.lkp.outbox ∧
    (expireWindow w s).stc.journal = s.stc.journal ∧
    (expireWindow w s).stc.checkpoints = s.stc.checkpoints ∧
    (expireWindow w s).stc.newest = s.stc.newest ∧
    (expireWindow w s).stc.nextCheckpoint = s.stc.nextCheckpoint ∧
    (expireWindow w s).stc.nextJournal = s.stc.nextJournal ∧
    (expireWindow w s).stc.newestJournal = s.stc.newestJournal ∧
    (expireWindow w s).stc.newestNumber = s.stc.newestNumber ∧
    (expireWindow w s).stc.unfolded = s.stc.unfolded ∧
    (expireWindow w s).stc.health = s.stc.health ∧
    (expireWindow w s).stc.saveWaiting = s.stc.saveWaiting ∧
    (expireWindow w s).stc.journalWaiting = s.stc.journalWaiting ∧
    (expireWindow w s).stc.write = s.stc.write ∧
    (expireWindow w s).miu.line = s.miu.line ∧
    (expireWindow w s).miu.ret = s.miu.ret ∧
    (expireWindow w s).miu.flashSlot = s.miu.flashSlot ∧
    (expireWindow w s).miu.wLim = s.miu.wLim ∧
    (expireWindow w s).tmn.cover = s.tmn.cover ∧
    (expireWindow w s).tmn.terminal = s.tmn.terminal ∧
    (expireWindow w s).tmn.magnet = s.tmn.magnet := by
  simp [expireWindow]

@[simp] theorem creditEffect_parts (amount : Nat) (s : State) :
    (creditEffect amount s).1.lkp.rx = s.lkp.rx ∧
    (creditEffect amount s).1.lkp.inService = s.lkp.inService ∧
    (creditEffect amount s).1.lkp.outbox = s.lkp.outbox ∧
    (creditEffect amount s).1.stc.journal = s.stc.journal ∧
    (creditEffect amount s).1.stc.checkpoints = s.stc.checkpoints ∧
    (creditEffect amount s).1.stc.newest = s.stc.newest ∧
    (creditEffect amount s).1.stc.nextCheckpoint = s.stc.nextCheckpoint ∧
    (creditEffect amount s).1.stc.nextJournal = s.stc.nextJournal ∧
    (creditEffect amount s).1.stc.newestJournal = s.stc.newestJournal ∧
    (creditEffect amount s).1.stc.newestNumber = s.stc.newestNumber ∧
    (creditEffect amount s).1.stc.unfolded = s.stc.unfolded ∧
    (creditEffect amount s).1.stc.health = s.stc.health ∧
    (creditEffect amount s).1.stc.saveWaiting = s.stc.saveWaiting ∧
    (creditEffect amount s).1.stc.journalWaiting = s.stc.journalWaiting ∧
    (creditEffect amount s).1.stc.write = s.stc.write ∧
    (creditEffect amount s).1.miu.line = s.miu.line ∧
    (creditEffect amount s).1.miu.ret = s.miu.ret ∧
    (creditEffect amount s).1.miu.imbRun = s.miu.imbRun ∧
    (creditEffect amount s).1.miu.balRun = s.miu.balRun ∧
    (creditEffect amount s).1.miu.imbalance = s.miu.imbalance ∧
    (creditEffect amount s).1.miu.reverse = s.miu.reverse ∧
    (creditEffect amount s).1.miu.flashPending = s.miu.flashPending ∧
    (creditEffect amount s).1.miu.flashSlot = s.miu.flashSlot ∧
    (creditEffect amount s).1.miu.wLim = s.miu.wLim ∧
    (creditEffect amount s).1.tmn.cover = s.tmn.cover ∧
    (creditEffect amount s).1.tmn.terminal = s.tmn.terminal ∧
    (creditEffect amount s).1.tmn.magnet = s.tmn.magnet := by
  simp [creditEffect]

@[simp] theorem clockEffect_parts (secs : Nat) (s : State) :
    (clockEffect secs s).1.lkp.rx = s.lkp.rx ∧
    (clockEffect secs s).1.lkp.inService = s.lkp.inService ∧
    (clockEffect secs s).1.lkp.outbox = s.lkp.outbox ∧
    (clockEffect secs s).1.stc.journal = s.stc.journal ∧
    (clockEffect secs s).1.stc.checkpoints = s.stc.checkpoints ∧
    (clockEffect secs s).1.stc.newest = s.stc.newest ∧
    (clockEffect secs s).1.stc.nextCheckpoint = s.stc.nextCheckpoint ∧
    (clockEffect secs s).1.stc.nextJournal = s.stc.nextJournal ∧
    (clockEffect secs s).1.stc.newestJournal = s.stc.newestJournal ∧
    (clockEffect secs s).1.stc.newestNumber = s.stc.newestNumber ∧
    (clockEffect secs s).1.stc.unfolded = s.stc.unfolded ∧
    (clockEffect secs s).1.stc.health = s.stc.health ∧
    (clockEffect secs s).1.stc.saveWaiting = s.stc.saveWaiting ∧
    (clockEffect secs s).1.stc.journalWaiting = s.stc.journalWaiting ∧
    (clockEffect secs s).1.stc.write = s.stc.write ∧
    (clockEffect secs s).1.miu.line = s.miu.line ∧
    (clockEffect secs s).1.miu.ret = s.miu.ret ∧
    (clockEffect secs s).1.miu.imbRun = s.miu.imbRun ∧
    (clockEffect secs s).1.miu.balRun = s.miu.balRun ∧
    (clockEffect secs s).1.miu.imbalance = s.miu.imbalance ∧
    (clockEffect secs s).1.miu.reverse = s.miu.reverse ∧
    (clockEffect secs s).1.miu.flashPending = s.miu.flashPending ∧
    (clockEffect secs s).1.miu.flashSlot = s.miu.flashSlot ∧
    (clockEffect secs s).1.miu.wLim = s.miu.wLim ∧
    (clockEffect secs s).1.tmn.cover = s.tmn.cover ∧
    (clockEffect secs s).1.tmn.terminal = s.tmn.terminal ∧
    (clockEffect secs s).1.tmn.magnet = s.tmn.magnet := by
  simp [clockEffect]

@[simp] theorem tamperClearEffect_parts (kinds : BitVec 8) (time : Stamp) (s : State) :
    (tamperClearEffect kinds time s).1.lkp.rx = s.lkp.rx ∧
    (tamperClearEffect kinds time s).1.lkp.inService = s.lkp.inService ∧
    (tamperClearEffect kinds time s).1.lkp.outbox = s.lkp.outbox ∧
    (tamperClearEffect kinds time s).1.stc.journal = s.stc.journal ∧
    (tamperClearEffect kinds time s).1.stc.checkpoints = s.stc.checkpoints ∧
    (tamperClearEffect kinds time s).1.stc.newest = s.stc.newest ∧
    (tamperClearEffect kinds time s).1.stc.nextCheckpoint = s.stc.nextCheckpoint ∧
    (tamperClearEffect kinds time s).1.stc.nextJournal = s.stc.nextJournal ∧
    (tamperClearEffect kinds time s).1.stc.newestJournal = s.stc.newestJournal ∧
    (tamperClearEffect kinds time s).1.stc.newestNumber = s.stc.newestNumber ∧
    (tamperClearEffect kinds time s).1.stc.unfolded = s.stc.unfolded ∧
    (tamperClearEffect kinds time s).1.stc.health = s.stc.health ∧
    (tamperClearEffect kinds time s).1.stc.saveWaiting = s.stc.saveWaiting ∧
    (tamperClearEffect kinds time s).1.stc.journalWaiting = s.stc.journalWaiting ∧
    (tamperClearEffect kinds time s).1.stc.write = s.stc.write ∧
    (tamperClearEffect kinds time s).1.miu.line = s.miu.line ∧
    (tamperClearEffect kinds time s).1.miu.ret = s.miu.ret ∧
    (tamperClearEffect kinds time s).1.miu.imbRun = s.miu.imbRun ∧
    (tamperClearEffect kinds time s).1.miu.balRun = s.miu.balRun ∧
    (tamperClearEffect kinds time s).1.miu.imbalance = s.miu.imbalance ∧
    (tamperClearEffect kinds time s).1.miu.reverse = s.miu.reverse ∧
    (tamperClearEffect kinds time s).1.miu.flashPending = s.miu.flashPending ∧
    (tamperClearEffect kinds time s).1.miu.flashSlot = s.miu.flashSlot ∧
    (tamperClearEffect kinds time s).1.miu.wLim = s.miu.wLim ∧
    (tamperClearEffect kinds time s).1.tmn.cover = s.tmn.cover ∧
    (tamperClearEffect kinds time s).1.tmn.terminal = s.tmn.terminal ∧
    (tamperClearEffect kinds time s).1.tmn.magnet = s.tmn.magnet := by
  simp [tamperClearEffect]

@[simp] theorem policyEffect_parts (k : TamperKind) (p : Policy) (s : State) :
    (policyEffect k p s).1.lkp.rx = s.lkp.rx ∧
    (policyEffect k p s).1.lkp.inService = s.lkp.inService ∧
    (policyEffect k p s).1.lkp.outbox = s.lkp.outbox ∧
    (policyEffect k p s).1.stc.journal = s.stc.journal ∧
    (policyEffect k p s).1.stc.checkpoints = s.stc.checkpoints ∧
    (policyEffect k p s).1.stc.newest = s.stc.newest ∧
    (policyEffect k p s).1.stc.nextCheckpoint = s.stc.nextCheckpoint ∧
    (policyEffect k p s).1.stc.nextJournal = s.stc.nextJournal ∧
    (policyEffect k p s).1.stc.newestJournal = s.stc.newestJournal ∧
    (policyEffect k p s).1.stc.newestNumber = s.stc.newestNumber ∧
    (policyEffect k p s).1.stc.unfolded = s.stc.unfolded ∧
    (policyEffect k p s).1.stc.health = s.stc.health ∧
    (policyEffect k p s).1.stc.saveWaiting = s.stc.saveWaiting ∧
    (policyEffect k p s).1.stc.journalWaiting = s.stc.journalWaiting ∧
    (policyEffect k p s).1.stc.write = s.stc.write ∧
    (policyEffect k p s).1.miu.line = s.miu.line ∧
    (policyEffect k p s).1.miu.ret = s.miu.ret ∧
    (policyEffect k p s).1.miu.imbRun = s.miu.imbRun ∧
    (policyEffect k p s).1.miu.balRun = s.miu.balRun ∧
    (policyEffect k p s).1.miu.imbalance = s.miu.imbalance ∧
    (policyEffect k p s).1.miu.reverse = s.miu.reverse ∧
    (policyEffect k p s).1.miu.flashPending = s.miu.flashPending ∧
    (policyEffect k p s).1.miu.flashSlot = s.miu.flashSlot ∧
    (policyEffect k p s).1.miu.wLim = s.miu.wLim ∧
    (policyEffect k p s).1.tmn.cover = s.tmn.cover ∧
    (policyEffect k p s).1.tmn.terminal = s.tmn.terminal ∧
    (policyEffect k p s).1.tmn.magnet = s.tmn.magnet := by
  simp [policyEffect]

@[simp] theorem keyLoEffect_parts (half : BitVec 32) (time : Stamp) (s : State) :
    (keyLoEffect half time s).1.stc.journal = s.stc.journal ∧
    (keyLoEffect half time s).1.stc.checkpoints = s.stc.checkpoints ∧
    (keyLoEffect half time s).1.stc.newest = s.stc.newest ∧
    (keyLoEffect half time s).1.stc.nextCheckpoint = s.stc.nextCheckpoint ∧
    (keyLoEffect half time s).1.stc.nextJournal = s.stc.nextJournal ∧
    (keyLoEffect half time s).1.stc.newestJournal = s.stc.newestJournal ∧
    (keyLoEffect half time s).1.stc.newestNumber = s.stc.newestNumber ∧
    (keyLoEffect half time s).1.stc.unfolded = s.stc.unfolded ∧
    (keyLoEffect half time s).1.stc.health = s.stc.health ∧
    (keyLoEffect half time s).1.stc.saveWaiting = s.stc.saveWaiting ∧
    (keyLoEffect half time s).1.stc.journalWaiting = s.stc.journalWaiting ∧
    (keyLoEffect half time s).1.stc.write = s.stc.write ∧
    (keyLoEffect half time s).1.tmn.cover = s.tmn.cover ∧
    (keyLoEffect half time s).1.tmn.terminal = s.tmn.terminal ∧
    (keyLoEffect half time s).1.tmn.magnet = s.tmn.magnet := by
  unfold keyLoEffect
  split <;> simp

@[simp] theorem supplyEffect_parts (release : Bool) (s : State) :
    (supplyEffect release s).1.lkp.rx = s.lkp.rx ∧
    (supplyEffect release s).1.lkp.inService = s.lkp.inService ∧
    (supplyEffect release s).1.lkp.outbox = s.lkp.outbox ∧
    (supplyEffect release s).1.stc.journal = s.stc.journal ∧
    (supplyEffect release s).1.stc.checkpoints = s.stc.checkpoints ∧
    (supplyEffect release s).1.stc.newest = s.stc.newest ∧
    (supplyEffect release s).1.stc.nextCheckpoint = s.stc.nextCheckpoint ∧
    (supplyEffect release s).1.stc.nextJournal = s.stc.nextJournal ∧
    (supplyEffect release s).1.stc.newestJournal = s.stc.newestJournal ∧
    (supplyEffect release s).1.stc.newestNumber = s.stc.newestNumber ∧
    (supplyEffect release s).1.stc.unfolded = s.stc.unfolded ∧
    (supplyEffect release s).1.stc.health = s.stc.health ∧
    (supplyEffect release s).1.stc.saveWaiting = s.stc.saveWaiting ∧
    (supplyEffect release s).1.stc.journalWaiting = s.stc.journalWaiting ∧
    (supplyEffect release s).1.stc.write = s.stc.write ∧
    (supplyEffect release s).1.miu.line = s.miu.line ∧
    (supplyEffect release s).1.miu.ret = s.miu.ret ∧
    (supplyEffect release s).1.miu.imbRun = s.miu.imbRun ∧
    (supplyEffect release s).1.miu.balRun = s.miu.balRun ∧
    (supplyEffect release s).1.miu.imbalance = s.miu.imbalance ∧
    (supplyEffect release s).1.miu.reverse = s.miu.reverse ∧
    (supplyEffect release s).1.miu.flashPending = s.miu.flashPending ∧
    (supplyEffect release s).1.miu.flashSlot = s.miu.flashSlot ∧
    (supplyEffect release s).1.miu.wLim = s.miu.wLim ∧
    (supplyEffect release s).1.tmn.cover = s.tmn.cover ∧
    (supplyEffect release s).1.tmn.terminal = s.tmn.terminal ∧
    (supplyEffect release s).1.tmn.magnet = s.tmn.magnet := by
  simp [supplyEffect]

@[simp] theorem beginLockout_parts (s : State) :
    (beginLockout s).lkp.rx = s.lkp.rx ∧
    (beginLockout s).lkp.inService = s.lkp.inService ∧
    (beginLockout s).lkp.outbox = s.lkp.outbox ∧
    (beginLockout s).stc.journal = s.stc.journal ∧
    (beginLockout s).stc.checkpoints = s.stc.checkpoints ∧
    (beginLockout s).stc.newest = s.stc.newest ∧
    (beginLockout s).stc.nextCheckpoint = s.stc.nextCheckpoint ∧
    (beginLockout s).stc.nextJournal = s.stc.nextJournal ∧
    (beginLockout s).stc.newestJournal = s.stc.newestJournal ∧
    (beginLockout s).stc.newestNumber = s.stc.newestNumber ∧
    (beginLockout s).stc.unfolded = s.stc.unfolded ∧
    (beginLockout s).stc.health = s.stc.health ∧
    (beginLockout s).stc.saveWaiting = s.stc.saveWaiting ∧
    (beginLockout s).stc.journalWaiting = s.stc.journalWaiting ∧
    (beginLockout s).stc.write = s.stc.write ∧
    (beginLockout s).miu.line = s.miu.line ∧
    (beginLockout s).miu.ret = s.miu.ret ∧
    (beginLockout s).miu.imbRun = s.miu.imbRun ∧
    (beginLockout s).miu.balRun = s.miu.balRun ∧
    (beginLockout s).miu.imbalance = s.miu.imbalance ∧
    (beginLockout s).miu.reverse = s.miu.reverse ∧
    (beginLockout s).miu.flashPending = s.miu.flashPending ∧
    (beginLockout s).miu.flashSlot = s.miu.flashSlot ∧
    (beginLockout s).miu.wLim = s.miu.wLim ∧
    (beginLockout s).tmn.cover = s.tmn.cover ∧
    (beginLockout s).tmn.terminal = s.tmn.terminal ∧
    (beginLockout s).tmn.magnet = s.tmn.magnet := by
  simp [beginLockout]

@[simp] theorem stepRun_parts (s : State) :
    (stepRun s).lkp.rx = s.lkp.rx ∧
    (stepRun s).lkp.inService = s.lkp.inService ∧
    (stepRun s).lkp.outbox = s.lkp.outbox ∧
    (stepRun s).stc.journal = s.stc.journal ∧
    (stepRun s).stc.checkpoints = s.stc.checkpoints ∧
    (stepRun s).stc.newest = s.stc.newest ∧
    (stepRun s).stc.nextCheckpoint = s.stc.nextCheckpoint ∧
    (stepRun s).stc.nextJournal = s.stc.nextJournal ∧
    (stepRun s).stc.newestJournal = s.stc.newestJournal ∧
    (stepRun s).stc.newestNumber = s.stc.newestNumber ∧
    (stepRun s).stc.unfolded = s.stc.unfolded ∧
    (stepRun s).stc.health = s.stc.health ∧
    (stepRun s).stc.saveWaiting = s.stc.saveWaiting ∧
    (stepRun s).stc.journalWaiting = s.stc.journalWaiting ∧
    (stepRun s).stc.write = s.stc.write ∧
    (stepRun s).miu.line = s.miu.line ∧
    (stepRun s).miu.ret = s.miu.ret ∧
    (stepRun s).miu.imbRun = s.miu.imbRun ∧
    (stepRun s).miu.balRun = s.miu.balRun ∧
    (stepRun s).miu.imbalance = s.miu.imbalance ∧
    (stepRun s).miu.reverse = s.miu.reverse ∧
    (stepRun s).miu.flashPending = s.miu.flashPending ∧
    (stepRun s).miu.flashSlot = s.miu.flashSlot ∧
    (stepRun s).miu.wLim = s.miu.wLim ∧
    (stepRun s).tmn.cover = s.tmn.cover ∧
    (stepRun s).tmn.terminal = s.tmn.terminal ∧
    (stepRun s).tmn.magnet = s.tmn.magnet := by
  unfold stepRun
  repeat' split
  all_goals simp

@[simp] theorem endLockout_parts (s : State) :
    (endLockout s).lkp.rx = s.lkp.rx ∧
    (endLockout s).lkp.inService = s.lkp.inService ∧
    (endLockout s).lkp.outbox = s.lkp.outbox ∧
    (endLockout s).stc.journal = s.stc.journal ∧
    (endLockout s).stc.checkpoints = s.stc.checkpoints ∧
    (endLockout s).stc.newest = s.stc.newest ∧
    (endLockout s).stc.nextCheckpoint = s.stc.nextCheckpoint ∧
    (endLockout s).stc.nextJournal = s.stc.nextJournal ∧
    (endLockout s).stc.newestJournal = s.stc.newestJournal ∧
    (endLockout s).stc.newestNumber = s.stc.newestNumber ∧
    (endLockout s).stc.unfolded = s.stc.unfolded ∧
    (endLockout s).stc.health = s.stc.health ∧
    (endLockout s).stc.saveWaiting = s.stc.saveWaiting ∧
    (endLockout s).stc.journalWaiting = s.stc.journalWaiting ∧
    (endLockout s).stc.write = s.stc.write ∧
    (endLockout s).miu.line = s.miu.line ∧
    (endLockout s).miu.ret = s.miu.ret ∧
    (endLockout s).miu.imbRun = s.miu.imbRun ∧
    (endLockout s).miu.balRun = s.miu.balRun ∧
    (endLockout s).miu.imbalance = s.miu.imbalance ∧
    (endLockout s).miu.reverse = s.miu.reverse ∧
    (endLockout s).miu.flashPending = s.miu.flashPending ∧
    (endLockout s).miu.flashSlot = s.miu.flashSlot ∧
    (endLockout s).miu.wLim = s.miu.wLim ∧
    (endLockout s).tmn.cover = s.tmn.cover ∧
    (endLockout s).tmn.terminal = s.tmn.terminal ∧
    (endLockout s).tmn.magnet = s.tmn.magnet := by
  simp [endLockout]

@[simp] theorem replayCheck_parts (e : JournalEntry) (s : State) :
    (replayCheck e s).lkp.rx = s.lkp.rx ∧
    (replayCheck e s).lkp.inService = s.lkp.inService ∧
    (replayCheck e s).lkp.outbox = s.lkp.outbox ∧
    (replayCheck e s).stc.journal = s.stc.journal ∧
    (replayCheck e s).stc.checkpoints = s.stc.checkpoints ∧
    (replayCheck e s).stc.newest = s.stc.newest ∧
    (replayCheck e s).stc.nextCheckpoint = s.stc.nextCheckpoint ∧
    (replayCheck e s).stc.nextJournal = s.stc.nextJournal ∧
    (replayCheck e s).stc.newestJournal = s.stc.newestJournal ∧
    (replayCheck e s).stc.newestNumber = s.stc.newestNumber ∧
    (replayCheck e s).stc.unfolded = s.stc.unfolded ∧
    (replayCheck e s).stc.health = s.stc.health ∧
    (replayCheck e s).stc.saveWaiting = s.stc.saveWaiting ∧
    (replayCheck e s).stc.journalWaiting = s.stc.journalWaiting ∧
    (replayCheck e s).stc.write = s.stc.write ∧
    (replayCheck e s).miu.line = s.miu.line ∧
    (replayCheck e s).miu.ret = s.miu.ret ∧
    (replayCheck e s).miu.imbRun = s.miu.imbRun ∧
    (replayCheck e s).miu.balRun = s.miu.balRun ∧
    (replayCheck e s).miu.imbalance = s.miu.imbalance ∧
    (replayCheck e s).miu.reverse = s.miu.reverse ∧
    (replayCheck e s).miu.flashPending = s.miu.flashPending ∧
    (replayCheck e s).miu.flashSlot = s.miu.flashSlot ∧
    (replayCheck e s).miu.wLim = s.miu.wLim ∧
    (replayCheck e s).tmn.cover = s.tmn.cover ∧
    (replayCheck e s).tmn.terminal = s.tmn.terminal ∧
    (replayCheck e s).tmn.magnet = s.tmn.magnet := by
  unfold replayCheck
  repeat' split
  all_goals simp

@[simp] theorem reconcileKind_parts (s : State) (k : TamperKind) :
    (reconcileKind s k).lkp.rx = s.lkp.rx ∧
    (reconcileKind s k).lkp.inService = s.lkp.inService ∧
    (reconcileKind s k).lkp.outbox = s.lkp.outbox ∧
    (reconcileKind s k).stc.journal = s.stc.journal ∧
    (reconcileKind s k).stc.checkpoints = s.stc.checkpoints ∧
    (reconcileKind s k).stc.newest = s.stc.newest ∧
    (reconcileKind s k).stc.nextCheckpoint = s.stc.nextCheckpoint ∧
    (reconcileKind s k).stc.nextJournal = s.stc.nextJournal ∧
    (reconcileKind s k).stc.newestJournal = s.stc.newestJournal ∧
    (reconcileKind s k).stc.newestNumber = s.stc.newestNumber ∧
    (reconcileKind s k).stc.unfolded = s.stc.unfolded ∧
    (reconcileKind s k).stc.health = s.stc.health ∧
    (reconcileKind s k).stc.saveWaiting = s.stc.saveWaiting ∧
    (reconcileKind s k).stc.journalWaiting = s.stc.journalWaiting ∧
    (reconcileKind s k).stc.write = s.stc.write ∧
    (reconcileKind s k).tmn.cover = s.tmn.cover ∧
    (reconcileKind s k).tmn.terminal = s.tmn.terminal ∧
    (reconcileKind s k).tmn.magnet = s.tmn.magnet := by
  unfold reconcileKind
  dsimp only
  repeat' split
  all_goals simp

@[simp] theorem foldl_reconcileKind_parts (l : List TamperKind) (s : State) :
    (l.foldl reconcileKind s).lkp.rx = s.lkp.rx ∧
    (l.foldl reconcileKind s).lkp.inService = s.lkp.inService ∧
    (l.foldl reconcileKind s).lkp.outbox = s.lkp.outbox ∧
    (l.foldl reconcileKind s).stc.journal = s.stc.journal ∧
    (l.foldl reconcileKind s).stc.checkpoints = s.stc.checkpoints ∧
    (l.foldl reconcileKind s).stc.newest = s.stc.newest ∧
    (l.foldl reconcileKind s).stc.nextCheckpoint = s.stc.nextCheckpoint ∧
    (l.foldl reconcileKind s).stc.nextJournal = s.stc.nextJournal ∧
    (l.foldl reconcileKind s).stc.newestJournal = s.stc.newestJournal ∧
    (l.foldl reconcileKind s).stc.newestNumber = s.stc.newestNumber ∧
    (l.foldl reconcileKind s).stc.unfolded = s.stc.unfolded ∧
    (l.foldl reconcileKind s).stc.health = s.stc.health ∧
    (l.foldl reconcileKind s).stc.saveWaiting = s.stc.saveWaiting ∧
    (l.foldl reconcileKind s).stc.journalWaiting = s.stc.journalWaiting ∧
    (l.foldl reconcileKind s).stc.write = s.stc.write ∧
    (l.foldl reconcileKind s).tmn.cover = s.tmn.cover ∧
    (l.foldl reconcileKind s).tmn.terminal = s.tmn.terminal ∧
    (l.foldl reconcileKind s).tmn.magnet = s.tmn.magnet := by
  induction l generalizing s with
  | nil => simp
  | cons x l ih => simp [List.foldl_cons, ih]

@[simp] theorem reconcile_parts (s : State) :
    (reconcile s).lkp.rx = s.lkp.rx ∧
    (reconcile s).lkp.inService = s.lkp.inService ∧
    (reconcile s).lkp.outbox = s.lkp.outbox ∧
    (reconcile s).stc.journal = s.stc.journal ∧
    (reconcile s).stc.checkpoints = s.stc.checkpoints ∧
    (reconcile s).stc.newest = s.stc.newest ∧
    (reconcile s).stc.nextCheckpoint = s.stc.nextCheckpoint ∧
    (reconcile s).stc.nextJournal = s.stc.nextJournal ∧
    (reconcile s).stc.newestJournal = s.stc.newestJournal ∧
    (reconcile s).stc.newestNumber = s.stc.newestNumber ∧
    (reconcile s).stc.unfolded = s.stc.unfolded ∧
    (reconcile s).stc.health = s.stc.health ∧
    (reconcile s).stc.saveWaiting = s.stc.saveWaiting ∧
    (reconcile s).stc.journalWaiting = s.stc.journalWaiting ∧
    (reconcile s).stc.write = s.stc.write ∧
    (reconcile s).miu.line = s.miu.line ∧
    (reconcile s).miu.ret = s.miu.ret ∧
    (reconcile s).miu.imbRun = s.miu.imbRun ∧
    (reconcile s).miu.balRun = s.miu.balRun ∧
    (reconcile s).miu.imbalance = s.miu.imbalance ∧
    (reconcile s).miu.reverse = s.miu.reverse ∧
    (reconcile s).miu.flashPending = s.miu.flashPending ∧
    (reconcile s).miu.flashSlot = s.miu.flashSlot ∧
    (reconcile s).miu.wLim = s.miu.wLim ∧
    (reconcile s).tmn.cover = s.tmn.cover ∧
    (reconcile s).tmn.terminal = s.tmn.terminal ∧
    (reconcile s).tmn.magnet = s.tmn.magnet := by
  unfold reconcile
  dsimp only
  repeat' split
  all_goals simp

@[simp] theorem judgeRestored_parts (s : State) :
    (judgeRestored s).lkp.rx = s.lkp.rx ∧
    (judgeRestored s).lkp.inService = s.lkp.inService ∧
    (judgeRestored s).lkp.outbox = s.lkp.outbox ∧
    (judgeRestored s).stc.journal = s.stc.journal ∧
    (judgeRestored s).stc.checkpoints = s.stc.checkpoints ∧
    (judgeRestored s).stc.newest = s.stc.newest ∧
    (judgeRestored s).stc.nextCheckpoint = s.stc.nextCheckpoint ∧
    (judgeRestored s).stc.nextJournal = s.stc.nextJournal ∧
    (judgeRestored s).stc.newestJournal = s.stc.newestJournal ∧
    (judgeRestored s).stc.newestNumber = s.stc.newestNumber ∧
    (judgeRestored s).stc.unfolded = s.stc.unfolded ∧
    (judgeRestored s).stc.health = s.stc.health ∧
    (judgeRestored s).stc.saveWaiting = s.stc.saveWaiting ∧
    (judgeRestored s).stc.journalWaiting = s.stc.journalWaiting ∧
    (judgeRestored s).stc.write = s.stc.write ∧
    (judgeRestored s).miu.line = s.miu.line ∧
    (judgeRestored s).miu.ret = s.miu.ret ∧
    (judgeRestored s).miu.imbRun = s.miu.imbRun ∧
    (judgeRestored s).miu.balRun = s.miu.balRun ∧
    (judgeRestored s).miu.imbalance = s.miu.imbalance ∧
    (judgeRestored s).miu.reverse = s.miu.reverse ∧
    (judgeRestored s).miu.flashPending = s.miu.flashPending ∧
    (judgeRestored s).miu.flashSlot = s.miu.flashSlot ∧
    (judgeRestored s).miu.wLim = s.miu.wLim ∧
    (judgeRestored s).tmn.cover = s.tmn.cover ∧
    (judgeRestored s).tmn.terminal = s.tmn.terminal ∧
    (judgeRestored s).tmn.magnet = s.tmn.magnet := by
  unfold judgeRestored
  repeat' split
  all_goals simp

@[simp] theorem compareContactor_parts (present : Bool) (s : State) :
    (compareContactor present s).lkp.rx = s.lkp.rx ∧
    (compareContactor present s).lkp.inService = s.lkp.inService ∧
    (compareContactor present s).lkp.outbox = s.lkp.outbox ∧
    (compareContactor present s).stc.journal = s.stc.journal ∧
    (compareContactor present s).stc.checkpoints = s.stc.checkpoints ∧
    (compareContactor present s).stc.newest = s.stc.newest ∧
    (compareContactor present s).stc.nextCheckpoint = s.stc.nextCheckpoint ∧
    (compareContactor present s).stc.nextJournal = s.stc.nextJournal ∧
    (compareContactor present s).stc.newestJournal = s.stc.newestJournal ∧
    (compareContactor present s).stc.newestNumber = s.stc.newestNumber ∧
    (compareContactor present s).stc.unfolded = s.stc.unfolded ∧
    (compareContactor present s).stc.health = s.stc.health ∧
    (compareContactor present s).stc.saveWaiting = s.stc.saveWaiting ∧
    (compareContactor present s).stc.journalWaiting = s.stc.journalWaiting ∧
    (compareContactor present s).stc.write = s.stc.write ∧
    (compareContactor present s).miu.line = s.miu.line ∧
    (compareContactor present s).miu.ret = s.miu.ret ∧
    (compareContactor present s).miu.imbRun = s.miu.imbRun ∧
    (compareContactor present s).miu.balRun = s.miu.balRun ∧
    (compareContactor present s).miu.imbalance = s.miu.imbalance ∧
    (compareContactor present s).miu.reverse = s.miu.reverse ∧
    (compareContactor present s).miu.flashPending = s.miu.flashPending ∧
    (compareContactor present s).miu.flashSlot = s.miu.flashSlot ∧
    (compareContactor present s).miu.wLim = s.miu.wLim ∧
    (compareContactor present s).tmn.cover = s.tmn.cover ∧
    (compareContactor present s).tmn.terminal = s.tmn.terminal ∧
    (compareContactor present s).tmn.magnet = s.tmn.magnet := by
  unfold compareContactor
  repeat' split
  all_goals simp

end Sys2Proof.Machine
end

