-- ==== Sys2Proof/Laws/PerInstr.lean ====
section
/-! SUPPORT. What holds of the operands of every command, one lemma per constructor: the request that a command carries, if it is one, fits a frame of the link, and its type byte names a request but for UNKNOWN_REQUEST (R188, R190). -/

namespace Sys2Proof.Laws.Operands

open Sys2Proof Sys2Proof.Machine

/-- A well-formed command that is a frame on the link has a payload that fits, a frame of the payload and five bytes more, and a type byte that names a request exactly where the command names one. -/
def Statement (c : Instr) : Prop :=
  c.wf = true → ∀ type payload, requestOf c = some (type, payload) →
    payload.length ≤ 60 ∧ (frame type payload).length = payload.length + 5 ∧
      (isRequest type.toNat = true ↔ ∀ t q, c ≠ .unknownRequest t q)

theorem frame_length (type : Byte) (payload : List Byte) : (frame type payload).length = payload.length + 5 := by
  simp [frame, covered, be]

/-- A command that is no frame has nothing to show. -/
theorem no_request (c : Instr) (h : requestOf c = none) : Statement c := by
  intro _ type payload hr
  simp [h] at hr

/-- A request that its command names: its payload fits, and its type byte is one of the eleven. -/
theorem named_request (c : Instr) (ty : Byte) (p : List Byte) (hc : requestOf c = some (ty, p))
    (hw : c.wf = payloadFits p) (ht : isRequest ty.toNat = true) (hu : ∀ t q, c ≠ .unknownRequest t q) :
    Statement c := by
  intro h type payload hr
  obtain ⟨rfl, rfl⟩ : ty = type ∧ p = payload := by simpa [hc] using hr
  refine ⟨?_, frame_length _ _, fun _ => hu, fun _ => ht⟩
  simpa [hw, payloadFits] using h

theorem powerOn (pins : Pins) : Statement (.powerOn pins) := no_request _ rfl

theorem mainsOkFall : Statement .mainsOkFall := no_request _ rfl

theorem mainsFailInStartup (written : Bool) : Statement (.mainsFailInStartup written) := no_request _ rfl

theorem mainsStable : Statement .mainsStable := no_request _ rfl

theorem vbatExhausted (exhausted : Bool) : Statement (.vbatExhausted exhausted) := no_request _ rfl

theorem holdupPowerLoss (written : Bool) : Statement (.holdupPowerLoss written) := no_request _ rfl

theorem resetRequest : Statement .resetRequest := no_request _ rfl

theorem saveComplete (good : Bool) : Statement (.saveComplete good) := no_request _ rfl

theorem linePulseAccepted (reverse : Bool) : Statement (.linePulseAccepted reverse) := no_request _ rfl

theorem returnPulseAccepted : Statement .returnPulseAccepted := no_request _ rfl

theorem noRecentPulse (channel : ChannelId) : Statement (.noRecentPulse channel) := no_request _ rfl

theorem flashSlotEnd : Statement .flashSlotEnd := no_request _ rfl

theorem windowExpiry : Statement .windowExpiry := no_request _ rfl

theorem clockSecond : Statement .clockSecond := no_request _ rfl

theorem quarterTick : Statement .quarterTick := no_request _ rfl

theorem elapsedTickExpiry : Statement .elapsedTickExpiry := no_request _ rfl

theorem routineRequestAged : Statement .routineRequestAged := no_request _ rfl

theorem checkpointWriteComplete (good : Bool) : Statement (.checkpointWriteComplete good) := no_request _ rfl

theorem journalWriteBad : Statement .journalWriteBad := no_request _ rfl

theorem ident (payload : List Byte) : Statement (.ident payload) := named_request _ _ _ rfl rfl rfl nofun

theorem provision (payload : List Byte) : Statement (.provision payload) := named_request _ _ _ rfl rfl rfl nofun

theorem submit (payload : List Byte) : Statement (.submit payload) := named_request _ _ _ rfl rfl rfl nofun

theorem lockoutEnd : Statement .lockoutEnd := no_request _ rfl

theorem credit : Statement .credit := no_request _ rfl

theorem rate : Statement .rate := no_request _ rfl

theorem switchPoint : Statement .switchPoint := no_request _ rfl

theorem special : Statement .special := no_request _ rfl

theorem friendly : Statement .friendly := no_request _ rfl

theorem standing : Statement .standing := no_request _ rfl

theorem activate : Statement .activate := no_request _ rfl

theorem limit : Statement .limit := no_request _ rfl

theorem debt : Statement .debt := no_request _ rfl

theorem tamperClear : Statement .tamperClear := no_request _ rfl

theorem policy : Statement .policy := no_request _ rfl

theorem clock : Statement .clock := no_request _ rfl

theorem keyHi : Statement .keyHi := no_request _ rfl

theorem keyLo : Statement .keyLo := no_request _ rfl

theorem supply : Statement .supply := no_request _ rfl

theorem snapshot (payload : List Byte) : Statement (.snapshot payload) := named_request _ _ _ rfl rfl rfl nofun

theorem readTariff (payload : List Byte) : Statement (.readTariff payload) := named_request _ _ _ rfl rfl rfl nofun

theorem readTamper (payload : List Byte) : Statement (.readTamper payload) := named_request _ _ _ rfl rfl rfl nofun

theorem readHistory (payload : List Byte) : Statement (.readHistory payload) := named_request _ _ _ rfl rfl rfl nofun

theorem readRedeemed (payload : List Byte) : Statement (.readRedeemed payload) := named_request _ _ _ rfl rfl rfl nofun

theorem readAlerts (payload : List Byte) : Statement (.readAlerts payload) := named_request _ _ _ rfl rfl rfl nofun

theorem clearAlerts (payload : List Byte) : Statement (.clearAlerts payload) := named_request _ _ _ rfl rfl rfl nofun

theorem trimClock (payload : List Byte) : Statement (.trimClock payload) := named_request _ _ _ rfl rfl rfl nofun

theorem unknownRequest (type : Byte) (payload : List Byte) : Statement (.unknownRequest type payload) := by
  intro h t p hr
  obtain ⟨rfl, rfl⟩ : type = t ∧ payload = p := by simpa [requestOf] using hr
  simp only [Instr.wf, payloadFits, namesNoRequest, Bool.and_eq_true, Bool.or_eq_true, decide_eq_true_eq] at h
  refine ⟨h.1, frame_length _ _, fun hq => ?_, fun hq => absurd rfl (hq type payload)⟩
  simp only [isRequest, Bool.and_eq_true, decide_eq_true_eq] at hq
  omega

theorem frameDiscard (bytes : List RxByte) : Statement (.frameDiscard bytes) := no_request _ rfl

theorem frameGapTimeout (bytes : List RxByte) : Statement (.frameGapTimeout bytes) := no_request _ rfl

theorem replySent : Statement .replySent := no_request _ rfl

theorem warningTimeout : Statement .warningTimeout := no_request _ rfl

theorem reservoirReadyRise (high : Bool) : Statement (.reservoirReadyRise high) := no_request _ rfl

theorem reservoirTimeout : Statement .reservoirTimeout := no_request _ rfl

theorem drivePulseEnd (ready : Bool) : Statement (.drivePulseEnd ready) := no_request _ rfl

theorem settleEnd : Statement .settleEnd := no_request _ rfl

theorem stuckRetryExpiry : Statement .stuckRetryExpiry := no_request _ rfl

theorem restoreTimeout : Statement .restoreTimeout := no_request _ rfl

theorem tripDayExpiry : Statement .tripDayExpiry := no_request _ rfl

theorem loadSideChange : Statement .loadSideChange := no_request _ rfl

theorem acceptPress : Statement .acceptPress := no_request _ rfl

theorem warnCycle : Statement .warnCycle := no_request _ rfl

theorem stateLedCycle : Statement .stateLedCycle := no_request _ rfl

theorem debounceExpiry (input : Switch) : Statement (.debounceExpiry input) := no_request _ rfl

theorem channelRearmed (channel : ChannelId) : Statement (.channelRearmed channel) := no_request _ rfl

theorem acceptReleased : Statement .acceptReleased := no_request _ rfl

theorem resetReleased : Statement .resetReleased := no_request _ rfl

theorem switchEdge (input : Switch) (high : Bool) : Statement (.switchEdge input high) := no_request _ rfl

theorem loadSenseOtherSample (present : Bool) : Statement (.loadSenseOtherSample present) := no_request _ rfl

theorem mainsOkChangeOutsideRun (high : Bool) : Statement (.mainsOkChangeOutsideRun high) := no_request _ rfl

end Sys2Proof.Laws.Operands
end

