-- ==== Sys2Proof/Laws/SscParts.lean ====
section
/-! SUPPORT. What SSC's shared operations leave unchanged inside SSC: the cause set where no cause moves, the CREDIT cause, and the counts and timers they do not touch. -/

namespace Sys2Proof.Machine

@[simp] theorem refreshLed_parts (x : Ssc) :
    x.refreshLed.state = x.state ∧ x.refreshLed.causes = x.causes ∧ x.refreshLed.emptying = x.emptying ∧
    x.refreshLed.waiver = x.waiver ∧ x.refreshLed.warn = x.warn ∧ x.refreshLed.run = x.run ∧
    x.refreshLed.stuckRetry = x.stuckRetry ∧ x.refreshLed.restore = x.restore ∧ x.refreshLed.trips = x.trips ∧
    x.refreshLed.tripDay = x.tripDay ∧ x.refreshLed.loadCount = x.loadCount ∧ x.refreshLed.loadSide = x.loadSide ∧
    x.refreshLed.accept = x.accept ∧ x.refreshLed.friendly = x.friendly ∧ x.refreshLed.low = x.low ∧
    x.refreshLed.emInUse = x.emInUse ∧ x.refreshLed.warnOn = x.warnOn ∧ x.refreshLed.warnTicks = x.warnTicks := by
  unfold Ssc.refreshLed
  dsimp only
  split <;> simp

@[simp] theorem put_credit (c : Causes) (k : Cause) (x : Bool) :
    (c.put k x).credit = if k = .credit then x else c.credit := by
  cases k <;> simp [Causes.put]

@[simp] theorem put_same (c : Causes) (k : Cause) (x : Bool) : (c.put k x).has k = x := by
  cases k <;> simp [Causes.put, Causes.has]

theorem put_has_self (c : Causes) (k : Cause) : c.put k (c.has k) = c := by
  cases k <;> simp [Causes.put, Causes.has]

@[simp] theorem putCause_parts (k : Cause) (x : Bool) (s : State) :
    (putCause k x s).ssc.causes = s.ssc.causes.put k x ∧
    (putCause k x s).ssc.state = s.ssc.state ∧
    (putCause k x s).ssc.run = s.ssc.run ∧
    (putCause k x s).ssc.trips = s.ssc.trips ∧
    (putCause k x s).ssc.restore = s.ssc.restore ∧
    (putCause k x s).ssc.tripDay = s.ssc.tripDay ∧
    (putCause k x s).ssc.accept = s.ssc.accept ∧
    (putCause k x s).ssc.friendly = s.ssc.friendly ∧
    (putCause k x s).ssc.low = s.ssc.low ∧
    (putCause k x s).ssc.emInUse = s.ssc.emInUse := by
  simp [putCause]

@[simp] theorem leaveOpen_sscParts (s : State) :
    (leaveOpen s).ssc.causes = s.ssc.causes ∧
    (leaveOpen s).ssc.trips = s.ssc.trips ∧
    (leaveOpen s).ssc.restore = s.ssc.restore ∧
    (leaveOpen s).ssc.tripDay = s.ssc.tripDay ∧
    (leaveOpen s).ssc.accept = s.ssc.accept ∧
    (leaveOpen s).ssc.friendly = s.ssc.friendly ∧
    (leaveOpen s).ssc.low = s.ssc.low ∧
    (leaveOpen s).ssc.emInUse = s.ssc.emInUse := by
  unfold leaveOpen
  dsimp only
  repeat' split
  all_goals simp

@[simp] theorem enterState_sscParts (st : SupplyState) (s : State) :
    (enterState st s).ssc.causes = s.ssc.causes ∧
    (enterState st s).ssc.trips = s.ssc.trips ∧
    (enterState st s).ssc.restore = s.ssc.restore ∧
    (enterState st s).ssc.tripDay = s.ssc.tripDay ∧
    (enterState st s).ssc.accept = s.ssc.accept ∧
    (enterState st s).ssc.friendly = s.ssc.friendly ∧
    (enterState st s).ssc.low = s.ssc.low ∧
    (enterState st s).ssc.emInUse = s.ssc.emInUse := by
  unfold enterState
  dsimp only
  repeat' split
  all_goals simp

@[simp] theorem startRun_sscParts (dir : Direction) (s : State) :
    (startRun dir s).ssc.causes = s.ssc.causes ∧
    (startRun dir s).ssc.trips = s.ssc.trips ∧
    (startRun dir s).ssc.restore = s.ssc.restore ∧
    (startRun dir s).ssc.tripDay = s.ssc.tripDay ∧
    (startRun dir s).ssc.accept = s.ssc.accept ∧
    (startRun dir s).ssc.friendly = s.ssc.friendly ∧
    (startRun dir s).ssc.low = s.ssc.low ∧
    (startRun dir s).ssc.emInUse = s.ssc.emInUse := by
  simp [startRun]

@[simp] theorem enterOpening_sscParts (s : State) :
    (enterOpening s).ssc.causes = s.ssc.causes ∧
    (enterOpening s).ssc.trips = s.ssc.trips ∧
    (enterOpening s).ssc.restore = s.ssc.restore ∧
    (enterOpening s).ssc.tripDay = s.ssc.tripDay ∧
    (enterOpening s).ssc.accept = s.ssc.accept ∧
    (enterOpening s).ssc.friendly = s.ssc.friendly ∧
    (enterOpening s).ssc.low = s.ssc.low ∧
    (enterOpening s).ssc.emInUse = s.ssc.emInUse := by
  simp [enterOpening]

@[simp] theorem enterClosing_sscParts (s : State) :
    (enterClosing s).ssc.causes = s.ssc.causes ∧
    (enterClosing s).ssc.trips = s.ssc.trips ∧
    (enterClosing s).ssc.restore = s.ssc.restore ∧
    (enterClosing s).ssc.tripDay = s.ssc.tripDay ∧
    (enterClosing s).ssc.accept = s.ssc.accept ∧
    (enterClosing s).ssc.friendly = s.ssc.friendly ∧
    (enterClosing s).ssc.low = s.ssc.low ∧
    (enterClosing s).ssc.emInUse = s.ssc.emInUse := by
  simp [enterClosing]

@[simp] theorem enterArmed_sscParts (s : State) :
    (enterArmed s).ssc.causes = s.ssc.causes ∧
    (enterArmed s).ssc.trips = s.ssc.trips ∧
    (enterArmed s).ssc.restore = s.ssc.restore ∧
    (enterArmed s).ssc.tripDay = s.ssc.tripDay ∧
    (enterArmed s).ssc.accept = s.ssc.accept ∧
    (enterArmed s).ssc.friendly = s.ssc.friendly ∧
    (enterArmed s).ssc.low = s.ssc.low ∧
    (enterArmed s).ssc.emInUse = s.ssc.emInUse := by
  simp [enterArmed]

@[simp] theorem judgeOpen_sscParts (s : State) :
    (judgeOpen s).ssc.causes = s.ssc.causes ∧
    (judgeOpen s).ssc.trips = s.ssc.trips ∧
    (judgeOpen s).ssc.restore = s.ssc.restore ∧
    (judgeOpen s).ssc.tripDay = s.ssc.tripDay ∧
    (judgeOpen s).ssc.accept = s.ssc.accept ∧
    (judgeOpen s).ssc.friendly = s.ssc.friendly ∧
    (judgeOpen s).ssc.low = s.ssc.low ∧
    (judgeOpen s).ssc.emInUse = s.ssc.emInUse := by
  unfold judgeOpen
  repeat' split
  all_goals simp

@[simp] theorem enterOpen_sscParts (e : Bool) (s : State) :
    (enterOpen e s).ssc.causes = s.ssc.causes ∧
    (enterOpen e s).ssc.trips = s.ssc.trips ∧
    (enterOpen e s).ssc.restore = s.ssc.restore ∧
    (enterOpen e s).ssc.tripDay = s.ssc.tripDay ∧
    (enterOpen e s).ssc.accept = s.ssc.accept ∧
    (enterOpen e s).ssc.friendly = s.ssc.friendly ∧
    (enterOpen e s).ssc.low = s.ssc.low ∧
    (enterOpen e s).ssc.emInUse = s.ssc.emInUse := by
  unfold enterOpen
  dsimp only
  repeat' split
  all_goals simp

@[simp] theorem enterWarning_sscParts (s : State) :
    (enterWarning s).ssc.causes = s.ssc.causes ∧
    (enterWarning s).ssc.trips = s.ssc.trips ∧
    (enterWarning s).ssc.restore = s.ssc.restore ∧
    (enterWarning s).ssc.tripDay = s.ssc.tripDay ∧
    (enterWarning s).ssc.accept = s.ssc.accept ∧
    (enterWarning s).ssc.friendly = s.ssc.friendly ∧
    (enterWarning s).ssc.low = s.ssc.low ∧
    (enterWarning s).ssc.emInUse = s.ssc.emInUse := by
  simp [enterWarning]

@[simp] theorem enterDeferred_sscParts (s : State) :
    (enterDeferred s).ssc.causes = s.ssc.causes ∧
    (enterDeferred s).ssc.trips = s.ssc.trips ∧
    (enterDeferred s).ssc.restore = s.ssc.restore ∧
    (enterDeferred s).ssc.tripDay = s.ssc.tripDay ∧
    (enterDeferred s).ssc.accept = s.ssc.accept ∧
    (enterDeferred s).ssc.friendly = s.ssc.friendly ∧
    (enterDeferred s).ssc.low = s.ssc.low ∧
    (enterDeferred s).ssc.emInUse = s.ssc.emInUse := by
  simp [enterDeferred]

@[simp] theorem warnOrDefer_sscParts (s : State) :
    (warnOrDefer s).ssc.causes = s.ssc.causes ∧
    (warnOrDefer s).ssc.trips = s.ssc.trips ∧
    (warnOrDefer s).ssc.restore = s.ssc.restore ∧
    (warnOrDefer s).ssc.tripDay = s.ssc.tripDay ∧
    (warnOrDefer s).ssc.accept = s.ssc.accept ∧
    (warnOrDefer s).ssc.friendly = s.ssc.friendly ∧
    (warnOrDefer s).ssc.low = s.ssc.low ∧
    (warnOrDefer s).ssc.emInUse = s.ssc.emInUse := by
  unfold warnOrDefer
  repeat' split
  all_goals simp

@[simp] theorem judgeClosed_sscParts (s : State) :
    (judgeClosed s).ssc.causes = s.ssc.causes ∧
    (judgeClosed s).ssc.trips = s.ssc.trips ∧
    (judgeClosed s).ssc.restore = s.ssc.restore ∧
    (judgeClosed s).ssc.tripDay = s.ssc.tripDay ∧
    (judgeClosed s).ssc.accept = s.ssc.accept ∧
    (judgeClosed s).ssc.friendly = s.ssc.friendly ∧
    (judgeClosed s).ssc.low = s.ssc.low ∧
    (judgeClosed s).ssc.emInUse = s.ssc.emInUse := by
  unfold judgeClosed
  repeat' split
  all_goals simp

@[simp] theorem enterClosed_sscParts (s : State) :
    (enterClosed s).ssc.causes = s.ssc.causes ∧
    (enterClosed s).ssc.trips = s.ssc.trips ∧
    (enterClosed s).ssc.restore = s.ssc.restore ∧
    (enterClosed s).ssc.tripDay = s.ssc.tripDay ∧
    (enterClosed s).ssc.accept = s.ssc.accept ∧
    (enterClosed s).ssc.friendly = s.ssc.friendly ∧
    (enterClosed s).ssc.low = s.ssc.low ∧
    (enterClosed s).ssc.emInUse = s.ssc.emInUse := by
  simp [enterClosed]

@[simp] theorem reactJoin_sscParts (k : Cause) (s : State) :
    (reactJoin k s).ssc.causes = s.ssc.causes ∧
    (reactJoin k s).ssc.trips = s.ssc.trips ∧
    (reactJoin k s).ssc.restore = s.ssc.restore ∧
    (reactJoin k s).ssc.tripDay = s.ssc.tripDay ∧
    (reactJoin k s).ssc.accept = s.ssc.accept ∧
    (reactJoin k s).ssc.friendly = s.ssc.friendly ∧
    (reactJoin k s).ssc.low = s.ssc.low ∧
    (reactJoin k s).ssc.emInUse = s.ssc.emInUse := by
  unfold reactJoin
  repeat' split
  all_goals simp

@[simp] theorem reactLeave_sscParts (k : Cause) (s : State) :
    (reactLeave k s).ssc.causes = s.ssc.causes ∧
    (reactLeave k s).ssc.trips = s.ssc.trips ∧
    (reactLeave k s).ssc.restore = s.ssc.restore ∧
    (reactLeave k s).ssc.tripDay = s.ssc.tripDay ∧
    (reactLeave k s).ssc.accept = s.ssc.accept ∧
    (reactLeave k s).ssc.friendly = s.ssc.friendly ∧
    (reactLeave k s).ssc.low = s.ssc.low ∧
    (reactLeave k s).ssc.emInUse = s.ssc.emInUse := by
  unfold reactLeave
  repeat' split
  all_goals simp

@[simp] theorem setCause_sscParts (k : Cause) (x : Bool) (s : State) :
    (setCause k x s).ssc.causes = s.ssc.causes.put k x ∧
    (setCause k x s).ssc.trips = s.ssc.trips ∧
    (setCause k x s).ssc.restore = s.ssc.restore ∧
    (setCause k x s).ssc.tripDay = s.ssc.tripDay ∧
    (setCause k x s).ssc.accept = s.ssc.accept ∧
    (setCause k x s).ssc.friendly = s.ssc.friendly ∧
    (setCause k x s).ssc.low = s.ssc.low ∧
    (setCause k x s).ssc.emInUse = s.ssc.emInUse := by
  unfold setCause
  dsimp only
  split
  · next h => simp [← h, put_has_self]
  · repeat' split
    all_goals simp

@[simp] theorem tellFriendly_sscParts (f : Bool) (s : State) :
    (tellFriendly f s).ssc.causes = s.ssc.causes ∧
    (tellFriendly f s).ssc.trips = s.ssc.trips ∧
    (tellFriendly f s).ssc.restore = s.ssc.restore ∧
    (tellFriendly f s).ssc.tripDay = s.ssc.tripDay ∧
    (tellFriendly f s).ssc.accept = s.ssc.accept ∧
    (tellFriendly f s).ssc.low = s.ssc.low ∧
    (tellFriendly f s).ssc.emInUse = s.ssc.emInUse := by
  unfold tellFriendly
  dsimp only
  repeat' split
  all_goals simp

@[simp] theorem tellLow_sscParts (x : Bool) (s : State) :
    (tellLow x s).ssc.causes = s.ssc.causes ∧
    (tellLow x s).ssc.trips = s.ssc.trips ∧
    (tellLow x s).ssc.restore = s.ssc.restore ∧
    (tellLow x s).ssc.tripDay = s.ssc.tripDay ∧
    (tellLow x s).ssc.accept = s.ssc.accept ∧
    (tellLow x s).ssc.friendly = s.ssc.friendly ∧
    (tellLow x s).ssc.emInUse = s.ssc.emInUse := by
  simp [tellLow]

@[simp] theorem tellEmergency_sscParts (x : Bool) (s : State) :
    (tellEmergency x s).ssc.causes = s.ssc.causes ∧
    (tellEmergency x s).ssc.trips = s.ssc.trips ∧
    (tellEmergency x s).ssc.restore = s.ssc.restore ∧
    (tellEmergency x s).ssc.tripDay = s.ssc.tripDay ∧
    (tellEmergency x s).ssc.accept = s.ssc.accept ∧
    (tellEmergency x s).ssc.friendly = s.ssc.friendly ∧
    (tellEmergency x s).ssc.low = s.ssc.low := by
  simp [tellEmergency]

@[simp] theorem switchFaultRises_sscParts (s : State) :
    (switchFaultRises s).ssc.causes.credit = s.ssc.causes.credit ∧
    (switchFaultRises s).ssc.trips = s.ssc.trips ∧
    (switchFaultRises s).ssc.restore = s.ssc.restore ∧
    (switchFaultRises s).ssc.tripDay = s.ssc.tripDay ∧
    (switchFaultRises s).ssc.accept = s.ssc.accept ∧
    (switchFaultRises s).ssc.friendly = s.ssc.friendly ∧
    (switchFaultRises s).ssc.low = s.ssc.low ∧
    (switchFaultRises s).ssc.emInUse = s.ssc.emInUse := by
  unfold switchFaultRises
  dsimp only
  repeat' split
  all_goals simp

@[simp] theorem startStuckRetry_sscParts (s : State) :
    (startStuckRetry s).ssc.causes = s.ssc.causes ∧
    (startStuckRetry s).ssc.trips = s.ssc.trips ∧
    (startStuckRetry s).ssc.restore = s.ssc.restore ∧
    (startStuckRetry s).ssc.tripDay = s.ssc.tripDay ∧
    (startStuckRetry s).ssc.accept = s.ssc.accept ∧
    (startStuckRetry s).ssc.friendly = s.ssc.friendly ∧
    (startStuckRetry s).ssc.low = s.ssc.low ∧
    (startStuckRetry s).ssc.emInUse = s.ssc.emInUse := by
  unfold startStuckRetry
  repeat' split
  all_goals simp

@[simp] theorem enterStuck_sscParts (dir : Direction) (s : State) :
    (enterStuck dir s).ssc.causes.credit = s.ssc.causes.credit ∧
    (enterStuck dir s).ssc.trips = s.ssc.trips ∧
    (enterStuck dir s).ssc.restore = s.ssc.restore ∧
    (enterStuck dir s).ssc.tripDay = s.ssc.tripDay ∧
    (enterStuck dir s).ssc.accept = s.ssc.accept ∧
    (enterStuck dir s).ssc.friendly = s.ssc.friendly ∧
    (enterStuck dir s).ssc.low = s.ssc.low ∧
    (enterStuck dir s).ssc.emInUse = s.ssc.emInUse := by
  unfold enterStuck
  dsimp only
  repeat' split
  all_goals simp

@[simp] theorem runSucceeds_sscParts (dir : Direction) (s : State) :
    (runSucceeds dir s).ssc.causes = s.ssc.causes ∧
    (runSucceeds dir s).ssc.trips = s.ssc.trips ∧
    (runSucceeds dir s).ssc.restore = s.ssc.restore ∧
    (runSucceeds dir s).ssc.tripDay = s.ssc.tripDay ∧
    (runSucceeds dir s).ssc.accept = s.ssc.accept ∧
    (runSucceeds dir s).ssc.friendly = s.ssc.friendly ∧
    (runSucceeds dir s).ssc.low = s.ssc.low ∧
    (runSucceeds dir s).ssc.emInUse = s.ssc.emInUse := by
  unfold runSucceeds
  dsimp only
  repeat' split
  all_goals simp

@[simp] theorem runFails_sscParts (dir : Direction) (s : State) :
    (runFails dir s).ssc.causes.credit = s.ssc.causes.credit ∧
    (runFails dir s).ssc.trips = s.ssc.trips ∧
    (runFails dir s).ssc.restore = s.ssc.restore ∧
    (runFails dir s).ssc.tripDay = s.ssc.tripDay ∧
    (runFails dir s).ssc.accept = s.ssc.accept ∧
    (runFails dir s).ssc.friendly = s.ssc.friendly ∧
    (runFails dir s).ssc.low = s.ssc.low ∧
    (runFails dir s).ssc.emInUse = s.ssc.emInUse := by
  unfold runFails
  dsimp only
  repeat' split
  all_goals simp

@[simp] theorem attemptFails_sscParts (r : DriveRun) (why : FailReason) (s : State) :
    (attemptFails r why s).ssc.causes.credit = s.ssc.causes.credit ∧
    (attemptFails r why s).ssc.trips = s.ssc.trips ∧
    (attemptFails r why s).ssc.restore = s.ssc.restore ∧
    (attemptFails r why s).ssc.tripDay = s.ssc.tripDay ∧
    (attemptFails r why s).ssc.accept = s.ssc.accept ∧
    (attemptFails r why s).ssc.friendly = s.ssc.friendly ∧
    (attemptFails r why s).ssc.low = s.ssc.low ∧
    (attemptFails r why s).ssc.emInUse = s.ssc.emInUse := by
  unfold attemptFails
  repeat' split
  all_goals simp

@[simp] theorem judgeTamper_sscParts (s : State) :
    (judgeTamper s).ssc.causes.credit = s.ssc.causes.credit ∧
    (judgeTamper s).ssc.trips = s.ssc.trips ∧
    (judgeTamper s).ssc.restore = s.ssc.restore ∧
    (judgeTamper s).ssc.tripDay = s.ssc.tripDay ∧
    (judgeTamper s).ssc.accept = s.ssc.accept ∧
    (judgeTamper s).ssc.friendly = s.ssc.friendly ∧
    (judgeTamper s).ssc.low = s.ssc.low ∧
    (judgeTamper s).ssc.emInUse = s.ssc.emInUse := by
  unfold judgeTamper
  repeat' split
  all_goals simp

@[simp] theorem report_sscParts (k : TamperKind) (v : Views) (s : State) :
    (report k v s).ssc.causes.credit = s.ssc.causes.credit ∧
    (report k v s).ssc.trips = s.ssc.trips ∧
    (report k v s).ssc.restore = s.ssc.restore ∧
    (report k v s).ssc.tripDay = s.ssc.tripDay ∧
    (report k v s).ssc.accept = s.ssc.accept ∧
    (report k v s).ssc.friendly = s.ssc.friendly ∧
    (report k v s).ssc.low = s.ssc.low ∧
    (report k v s).ssc.emInUse = s.ssc.emInUse := by
  unfold report
  repeat' split
  all_goals simp

@[simp] theorem switchLevel_sscParts (sw : Switch) (x : Bool) (s : State) :
    (switchLevel sw x s).ssc.causes.credit = s.ssc.causes.credit ∧
    (switchLevel sw x s).ssc.trips = s.ssc.trips ∧
    (switchLevel sw x s).ssc.restore = s.ssc.restore ∧
    (switchLevel sw x s).ssc.tripDay = s.ssc.tripDay ∧
    (switchLevel sw x s).ssc.accept = s.ssc.accept ∧
    (switchLevel sw x s).ssc.friendly = s.ssc.friendly ∧
    (switchLevel sw x s).ssc.low = s.ssc.low ∧
    (switchLevel sw x s).ssc.emInUse = s.ssc.emInUse := by
  unfold switchLevel
  repeat' split
  all_goals simp

@[simp] theorem judgeCredit_sscParts (s : State) :
    (judgeCredit s).ssc.causes = s.ssc.causes.put .credit (decide (s.ace.c ≤ s.ace.floor)) ∧
    (judgeCredit s).ssc.trips = s.ssc.trips ∧
    (judgeCredit s).ssc.restore = s.ssc.restore ∧
    (judgeCredit s).ssc.tripDay = s.ssc.tripDay ∧
    (judgeCredit s).ssc.accept = s.ssc.accept ∧
    (judgeCredit s).ssc.friendly = s.ssc.friendly ∧
    (judgeCredit s).ssc.low = s.ssc.low ∧
    (judgeCredit s).ssc.emInUse = s.ssc.emInUse := by
  simp [judgeCredit]

@[simp] theorem judgeLow_sscParts (s : State) :
    (judgeLow s).ssc.causes.credit = s.ssc.causes.credit ∧
    (judgeLow s).ssc.trips = s.ssc.trips ∧
    (judgeLow s).ssc.restore = s.ssc.restore ∧
    (judgeLow s).ssc.tripDay = s.ssc.tripDay ∧
    (judgeLow s).ssc.accept = s.ssc.accept ∧
    (judgeLow s).ssc.friendly = s.ssc.friendly ∧
    (judgeLow s).ssc.emInUse = s.ssc.emInUse := by
  unfold judgeLow
  dsimp only
  repeat' split
  all_goals simp

@[simp] theorem judgeAccount_sscParts (s : State) :
    (judgeAccount s).ssc.trips = s.ssc.trips ∧
    (judgeAccount s).ssc.restore = s.ssc.restore ∧
    (judgeAccount s).ssc.tripDay = s.ssc.tripDay ∧
    (judgeAccount s).ssc.accept = s.ssc.accept ∧
    (judgeAccount s).ssc.friendly = s.ssc.friendly ∧
    (judgeAccount s).ssc.emInUse = s.ssc.emInUse := by
  simp [judgeAccount]

@[simp] theorem charge_sscParts (q : Nat) (s : State) :
    (charge q s).ssc.trips = s.ssc.trips ∧
    (charge q s).ssc.restore = s.ssc.restore ∧
    (charge q s).ssc.tripDay = s.ssc.tripDay ∧
    (charge q s).ssc.accept = s.ssc.accept ∧
    (charge q s).ssc.friendly = s.ssc.friendly ∧
    (charge q s).ssc.emInUse = s.ssc.emInUse := by
  unfold charge
  repeat' split
  all_goals simp

@[simp] theorem billPulse_sscParts (s : State) :
    (billPulse s).ssc.trips = s.ssc.trips ∧
    (billPulse s).ssc.restore = s.ssc.restore ∧
    (billPulse s).ssc.tripDay = s.ssc.tripDay ∧
    (billPulse s).ssc.accept = s.ssc.accept ∧
    (billPulse s).ssc.friendly = s.ssc.friendly ∧
    (billPulse s).ssc.emInUse = s.ssc.emInUse := by
  unfold billPulse
  dsimp only
  repeat' split
  all_goals simp

@[simp] theorem standingCharge_sscParts (s : State) :
    (standingCharge s).ssc.trips = s.ssc.trips ∧
    (standingCharge s).ssc.restore = s.ssc.restore ∧
    (standingCharge s).ssc.tripDay = s.ssc.tripDay ∧
    (standingCharge s).ssc.accept = s.ssc.accept ∧
    (standingCharge s).ssc.friendly = s.ssc.friendly ∧
    (standingCharge s).ssc.emInUse = s.ssc.emInUse := by
  simp [standingCharge]

@[simp] theorem aceTick_sscParts (named : Option Nat) (s : State) :
    (aceTick named s).ssc.trips = s.ssc.trips ∧
    (aceTick named s).ssc.restore = s.ssc.restore ∧
    (aceTick named s).ssc.tripDay = s.ssc.tripDay ∧
    (aceTick named s).ssc.accept = s.ssc.accept ∧
    (aceTick named s).ssc.friendly = s.ssc.friendly ∧
    (aceTick named s).ssc.emInUse = s.ssc.emInUse := by
  unfold aceTick
  dsimp only
  repeat' split
  all_goals simp

@[simp] theorem endAdvance_sscParts (s : State) :
    (endAdvance s).ssc.causes.credit = s.ssc.causes.credit ∧
    (endAdvance s).ssc.trips = s.ssc.trips ∧
    (endAdvance s).ssc.restore = s.ssc.restore ∧
    (endAdvance s).ssc.tripDay = s.ssc.tripDay ∧
    (endAdvance s).ssc.accept = s.ssc.accept ∧
    (endAdvance s).ssc.friendly = s.ssc.friendly ∧
    (endAdvance s).ssc.low = s.ssc.low := by
  unfold endAdvance
  repeat' split
  all_goals simp

@[simp] theorem topUp_sscParts (amount : Nat) (s : State) :
    (topUp amount s).ssc.trips = s.ssc.trips ∧
    (topUp amount s).ssc.restore = s.ssc.restore ∧
    (topUp amount s).ssc.tripDay = s.ssc.tripDay ∧
    (topUp amount s).ssc.accept = s.ssc.accept ∧
    (topUp amount s).ssc.friendly = s.ssc.friendly := by
  simp [topUp]

@[simp] theorem takeEmergency_sscParts (s : State) :
    (takeEmergency s).ssc.trips = s.ssc.trips ∧
    (takeEmergency s).ssc.restore = s.ssc.restore ∧
    (takeEmergency s).ssc.tripDay = s.ssc.tripDay ∧
    (takeEmergency s).ssc.accept = s.ssc.accept ∧
    (takeEmergency s).ssc.friendly = s.ssc.friendly ∧
    (takeEmergency s).ssc.low = s.ssc.low := by
  unfold takeEmergency
  repeat' split
  all_goals simp

@[simp] theorem setLowThreshold_sscParts (u : Nat) (s : State) :
    (setLowThreshold u s).ssc.causes.credit = s.ssc.causes.credit ∧
    (setLowThreshold u s).ssc.trips = s.ssc.trips ∧
    (setLowThreshold u s).ssc.restore = s.ssc.restore ∧
    (setLowThreshold u s).ssc.tripDay = s.ssc.tripDay ∧
    (setLowThreshold u s).ssc.accept = s.ssc.accept ∧
    (setLowThreshold u s).ssc.friendly = s.ssc.friendly ∧
    (setLowThreshold u s).ssc.emInUse = s.ssc.emInUse := by
  simp [setLowThreshold]

@[simp] theorem judgeBand_sscParts (s : State) :
    (judgeBand s).ssc.causes.credit = s.ssc.causes.credit ∧
    (judgeBand s).ssc.trips = s.ssc.trips ∧
    (judgeBand s).ssc.restore = s.ssc.restore ∧
    (judgeBand s).ssc.tripDay = s.ssc.tripDay ∧
    (judgeBand s).ssc.accept = s.ssc.accept ∧
    (judgeBand s).ssc.low = s.ssc.low ∧
    (judgeBand s).ssc.emInUse = s.ssc.emInUse := by
  unfold judgeBand
  dsimp only
  repeat' split
  all_goals simp

@[simp] theorem activateTariff_sscParts (t : Tariff) (s : State) :
    (activateTariff t s).ssc.causes.credit = s.ssc.causes.credit ∧
    (activateTariff t s).ssc.trips = s.ssc.trips ∧
    (activateTariff t s).ssc.restore = s.ssc.restore ∧
    (activateTariff t s).ssc.tripDay = s.ssc.tripDay ∧
    (activateTariff t s).ssc.accept = s.ssc.accept ∧
    (activateTariff t s).ssc.low = s.ssc.low ∧
    (activateTariff t s).ssc.emInUse = s.ssc.emInUse := by
  simp [activateTariff]

@[simp] theorem activateAtTick_sscParts (t : Tariff) (s : State) :
    (activateAtTick t s).ssc.causes.credit = s.ssc.causes.credit ∧
    (activateAtTick t s).ssc.trips = s.ssc.trips ∧
    (activateAtTick t s).ssc.restore = s.ssc.restore ∧
    (activateAtTick t s).ssc.tripDay = s.ssc.tripDay ∧
    (activateAtTick t s).ssc.accept = s.ssc.accept ∧
    (activateAtTick t s).ssc.low = s.ssc.low ∧
    (activateAtTick t s).ssc.emInUse = s.ssc.emInUse := by
  unfold activateAtTick
  dsimp only
  repeat' split
  all_goals simp

@[simp] theorem activateIfReached_sscParts (q : Nat) (s : State) :
    (activateIfReached q s).ssc.causes.credit = s.ssc.causes.credit ∧
    (activateIfReached q s).ssc.trips = s.ssc.trips ∧
    (activateIfReached q s).ssc.restore = s.ssc.restore ∧
    (activateIfReached q s).ssc.tripDay = s.ssc.tripDay ∧
    (activateIfReached q s).ssc.accept = s.ssc.accept ∧
    (activateIfReached q s).ssc.low = s.ssc.low ∧
    (activateIfReached q s).ssc.emInUse = s.ssc.emInUse := by
  unfold activateIfReached
  repeat' split
  all_goals simp

@[simp] theorem resetTripDay_sscParts (s : State) :
    (resetTripDay s).ssc.causes.credit = s.ssc.causes.credit ∧
    (resetTripDay s).ssc.restore = s.ssc.restore ∧
    (resetTripDay s).ssc.accept = s.ssc.accept ∧
    (resetTripDay s).ssc.friendly = s.ssc.friendly ∧
    (resetTripDay s).ssc.low = s.ssc.low ∧
    (resetTripDay s).ssc.emInUse = s.ssc.emInUse := by
  unfold resetTripDay
  dsimp only
  repeat' split
  all_goals simp

@[simp] theorem sscTick_sscParts (named : Option Nat) (s : State) :
    (sscTick named s).ssc.causes.credit = s.ssc.causes.credit ∧
    (sscTick named s).ssc.restore = s.ssc.restore ∧
    (sscTick named s).ssc.accept = s.ssc.accept ∧
    (sscTick named s).ssc.friendly = s.ssc.friendly ∧
    (sscTick named s).ssc.low = s.ssc.low ∧
    (sscTick named s).ssc.emInUse = s.ssc.emInUse := by
  unfold sscTick
  repeat' split
  all_goals simp

@[simp] theorem tickActivates_sscParts (named : Option Nat) (s : State) :
    (tickActivates named s).ssc.causes.credit = s.ssc.causes.credit ∧
    (tickActivates named s).ssc.trips = s.ssc.trips ∧
    (tickActivates named s).ssc.restore = s.ssc.restore ∧
    (tickActivates named s).ssc.tripDay = s.ssc.tripDay ∧
    (tickActivates named s).ssc.accept = s.ssc.accept ∧
    (tickActivates named s).ssc.low = s.ssc.low ∧
    (tickActivates named s).ssc.emInUse = s.ssc.emInUse := by
  unfold tickActivates
  repeat' split
  all_goals simp

@[simp] theorem handleTick_sscParts (named : Option Nat) (s : State) :
    (handleTick named s).ssc.restore = s.ssc.restore ∧
    (handleTick named s).ssc.accept = s.ssc.accept ∧
    (handleTick named s).ssc.emInUse = s.ssc.emInUse := by
  simp [handleTick]

@[simp] theorem takeIssuedTick_sscParts (s : State) :
    (takeIssuedTick s).ssc.restore = s.ssc.restore ∧
    (takeIssuedTick s).ssc.accept = s.ssc.accept ∧
    (takeIssuedTick s).ssc.emInUse = s.ssc.emInUse := by
  unfold takeIssuedTick
  repeat' split
  all_goals simp

@[simp] theorem catchUp_sscParts (n : Nat) (s : State) :
    (catchUp n s).ssc.restore = s.ssc.restore ∧
    (catchUp n s).ssc.accept = s.ssc.accept ∧
    (catchUp n s).ssc.emInUse = s.ssc.emInUse := by
  induction n generalizing s with
  | zero => simp [catchUp]
  | succ n ih => simp [catchUp, ih]

@[simp] theorem setClock_sscParts (count : Nat) (s : State) :
    (setClock count s).ssc.causes.credit = s.ssc.causes.credit ∧
    (setClock count s).ssc.trips = s.ssc.trips ∧
    (setClock count s).ssc.restore = s.ssc.restore ∧
    (setClock count s).ssc.tripDay = s.ssc.tripDay ∧
    (setClock count s).ssc.accept = s.ssc.accept ∧
    (setClock count s).ssc.low = s.ssc.low ∧
    (setClock count s).ssc.emInUse = s.ssc.emInUse := by
  simp [setClock]

@[simp] theorem trimClock_sscParts (a : Int) (s : State) :
    (trimClock a s).2.ssc.causes.credit = s.ssc.causes.credit ∧
    (trimClock a s).2.ssc.trips = s.ssc.trips ∧
    (trimClock a s).2.ssc.restore = s.ssc.restore ∧
    (trimClock a s).2.ssc.tripDay = s.ssc.tripDay ∧
    (trimClock a s).2.ssc.accept = s.ssc.accept ∧
    (trimClock a s).2.ssc.low = s.ssc.low ∧
    (trimClock a s).2.ssc.emInUse = s.ssc.emInUse := by
  unfold trimClock
  dsimp only
  repeat' split
  all_goals simp

@[simp] theorem billPulses_sscParts (n : Nat) (s : State) :
    (billPulses n s).ssc.trips = s.ssc.trips ∧
    (billPulses n s).ssc.restore = s.ssc.restore ∧
    (billPulses n s).ssc.tripDay = s.ssc.tripDay ∧
    (billPulses n s).ssc.accept = s.ssc.accept ∧
    (billPulses n s).ssc.friendly = s.ssc.friendly ∧
    (billPulses n s).ssc.emInUse = s.ssc.emInUse := by
  induction n generalizing s with
  | zero => simp [billPulses]
  | succ n ih => simp [billPulses, ih]

@[simp] theorem overloadTrip_sscParts (s : State) :
    (overloadTrip s).ssc.causes.credit = s.ssc.causes.credit ∧
    (overloadTrip s).ssc.accept = s.ssc.accept ∧
    (overloadTrip s).ssc.friendly = s.ssc.friendly ∧
    (overloadTrip s).ssc.low = s.ssc.low ∧
    (overloadTrip s).ssc.emInUse = s.ssc.emInUse := by
  unfold overloadTrip
  repeat' split
  all_goals simp

@[simp] theorem raiseOverload_sscParts (s : State) :
    (raiseOverload s).ssc.causes.credit = s.ssc.causes.credit ∧
    (raiseOverload s).ssc.accept = s.ssc.accept ∧
    (raiseOverload s).ssc.friendly = s.ssc.friendly ∧
    (raiseOverload s).ssc.low = s.ssc.low ∧
    (raiseOverload s).ssc.emInUse = s.ssc.emInUse := by
  unfold raiseOverload
  dsimp only
  repeat' split
  all_goals simp

@[simp] theorem updateOverRun_sscParts (ch : ChannelId) (measured : Option Nat) (p : Nat) (s : State) :
    (updateOverRun ch measured p s).ssc.causes.credit = s.ssc.causes.credit ∧
    (updateOverRun ch measured p s).ssc.accept = s.ssc.accept ∧
    (updateOverRun ch measured p s).ssc.friendly = s.ssc.friendly ∧
    (updateOverRun ch measured p s).ssc.low = s.ssc.low ∧
    (updateOverRun ch measured p s).ssc.emInUse = s.ssc.emInUse := by
  unfold updateOverRun
  dsimp only
  repeat' split
  all_goals simp

@[simp] theorem judgeImbalance_sscParts (nL nR : Nat) (s : State) :
    (judgeImbalance nL nR s).ssc.causes.credit = s.ssc.causes.credit ∧
    (judgeImbalance nL nR s).ssc.trips = s.ssc.trips ∧
    (judgeImbalance nL nR s).ssc.restore = s.ssc.restore ∧
    (judgeImbalance nL nR s).ssc.tripDay = s.ssc.tripDay ∧
    (judgeImbalance nL nR s).ssc.accept = s.ssc.accept ∧
    (judgeImbalance nL nR s).ssc.friendly = s.ssc.friendly ∧
    (judgeImbalance nL nR s).ssc.low = s.ssc.low ∧
    (judgeImbalance nL nR s).ssc.emInUse = s.ssc.emInUse := by
  unfold judgeImbalance
  dsimp only
  repeat' split
  all_goals simp

@[simp] theorem judgeReverse_sscParts (rev : Nat) (s : State) :
    (judgeReverse rev s).ssc.causes.credit = s.ssc.causes.credit ∧
    (judgeReverse rev s).ssc.trips = s.ssc.trips ∧
    (judgeReverse rev s).ssc.restore = s.ssc.restore ∧
    (judgeReverse rev s).ssc.tripDay = s.ssc.tripDay ∧
    (judgeReverse rev s).ssc.accept = s.ssc.accept ∧
    (judgeReverse rev s).ssc.friendly = s.ssc.friendly ∧
    (judgeReverse rev s).ssc.low = s.ssc.low ∧
    (judgeReverse rev s).ssc.emInUse = s.ssc.emInUse := by
  unfold judgeReverse
  repeat' split
  all_goals simp

@[simp] theorem judgeConducting_sscParts (total : Nat) (s : State) :
    (judgeConducting total s).ssc.causes.credit = s.ssc.causes.credit ∧
    (judgeConducting total s).ssc.trips = s.ssc.trips ∧
    (judgeConducting total s).ssc.restore = s.ssc.restore ∧
    (judgeConducting total s).ssc.tripDay = s.ssc.tripDay ∧
    (judgeConducting total s).ssc.accept = s.ssc.accept ∧
    (judgeConducting total s).ssc.friendly = s.ssc.friendly ∧
    (judgeConducting total s).ssc.low = s.ssc.low ∧
    (judgeConducting total s).ssc.emInUse = s.ssc.emInUse := by
  unfold judgeConducting
  dsimp only
  repeat' split
  all_goals simp

@[simp] theorem expireWindow_sscParts (w : Window) (s : State) :
    (expireWindow w s).ssc.trips = s.ssc.trips ∧
    (expireWindow w s).ssc.restore = s.ssc.restore ∧
    (expireWindow w s).ssc.tripDay = s.ssc.tripDay ∧
    (expireWindow w s).ssc.accept = s.ssc.accept ∧
    (expireWindow w s).ssc.friendly = s.ssc.friendly ∧
    (expireWindow w s).ssc.emInUse = s.ssc.emInUse := by
  simp [expireWindow]

end Sys2Proof.Machine
end

