-- ==== Sys2Proof/Laws/Spec.lean ====
section
/-! SUPPORT. One lemma per shared operation that says all it does, for a proof to cite in place of unfolding it: the arbiter at rest, ACE's judgements and charges, and the arrival of a whole frame. -/

namespace Sys2Proof.Machine

/-! ### The arbiter -/

theorem takeSave_busy (s : State) (h : s.stc.write.isSome = true) : takeSave s = s := by
  obtain ⟨w, hw⟩ := Option.isSome_iff_exists.mp h
  simp [takeSave, hw]

theorem takeJournal_busy (s : State) (h : s.stc.write.isSome = true) : takeJournal s = s := by
  obtain ⟨w, hw⟩ := Option.isSome_iff_exists.mp h
  simp [takeJournal, hw]

theorem takeCheckpoint_busy (s : State) (h : s.stc.write.isSome = true) : takeCheckpoint s = s := by
  obtain ⟨w, hw⟩ := Option.isSome_iff_exists.mp h
  simp [takeCheckpoint, hw]

theorem arbitrate_busy (s : State) (h : s.stc.write.isSome = true) : arbitrate s = s := by
  simp [arbitrate, takeSave_busy _ h, takeJournal_busy _ h, takeCheckpoint_busy _ h]

theorem takeSave_none (s : State) (h : s.stc.saveWaiting = none) : takeSave s = s := by
  simp only [takeSave, h]
  split <;> simp_all

theorem takeJournal_none (s : State) (h : s.stc.journalWaiting = none) : takeJournal s = s := by
  simp only [takeJournal, h]
  split <;> simp_all

theorem takeCheckpoint_none (s : State) (h : s.stc.checkpointWaiting = none) : takeCheckpoint s = s := by
  simp only [takeCheckpoint, h]
  split <;> simp_all

/-- An arbiter at rest changes nothing. -/
theorem arbitrate_atRest (s : State) (h : storeAtRest s = true) : arbitrate s = s := by
  unfold storeAtRest at h
  rcases Bool.or_eq_true _ _ ▸ h with h | h
  · exact arbitrate_busy s h
  · simp only [Bool.and_eq_true, Option.isNone_iff_eq_none] at h
    simp [arbitrate, takeSave_none _ h.1.1, takeJournal_none _ h.1.2, takeCheckpoint_none _ h.2]

/-- With neither a SAVE nor a JOURNAL waiting, the arbiter is at a checkpoint request. -/
theorem arbitrate_checkpoint (s : State) (h1 : s.stc.saveWaiting = none) (h2 : s.stc.journalWaiting = none) :
    arbitrate s = takeCheckpoint s := by
  simp [arbitrate, takeSave_none _ h1, takeJournal_none _ h2]

/-- With neither a SAVE nor a JOURNAL waiting, the arbiter touches the store, and the STORE alert where no slot can be written, alone. -/
theorem arbitrate_checkpoint_frame (s : State) (h1 : s.stc.saveWaiting = none) (h2 : s.stc.journalWaiting = none) :
    (arbitrate s).pins = s.pins ∧ (arbitrate s).now = s.now ∧ (arbitrate s).comm = s.comm ∧
    (arbitrate s).psv = s.psv ∧ (arbitrate s).miu = s.miu ∧ (arbitrate s).ace = s.ace ∧
    (arbitrate s).ctu = s.ctu ∧ (arbitrate s).cru = s.cru ∧ (arbitrate s).ssc = s.ssc ∧
    (arbitrate s).tmn = s.tmn ∧ (arbitrate s).pending = s.pending ∧ (arbitrate s).lkp.rx = s.lkp.rx ∧
    (arbitrate s).lkp.outbox = s.lkp.outbox ∧ (arbitrate s).lkp.inService = s.lkp.inService ∧
    (arbitrate s).stc.journal = s.stc.journal ∧ (arbitrate s).stc.unfolded = s.stc.unfolded ∧
    (arbitrate s).stc.newestJournal = s.stc.newestJournal ∧ (arbitrate s).stc.nextJournal = s.stc.nextJournal ∧
    (arbitrate s).stc.newestNumber = s.stc.newestNumber ∧ (arbitrate s).stc.newest = s.stc.newest ∧ (arbitrate s).stc.health = s.stc.health := by
  rw [arbitrate_checkpoint s h1 h2]
  unfold takeCheckpoint
  split
  · dsimp only
    split <;> simp [Stc.started, Stc.putSlot]
  · simp

/-- An unseen alert stays unseen when another is raised. -/
theorem raiseAlert_unseen (a b : Alert) (s : State) (h : unseen a s = true) : unseen a (raiseAlert b s) = true := by
  unfold raiseAlert
  split
  · cases a <;> cases b <;> simp [unseen, markAlert, Alert.idx] at h ⊢ <;> exact h
  · exact h

/-- An alert that is unseen before the arbiter takes a checkpoint request is unseen after it. -/
theorem takeCheckpoint_unseen (a : Alert) (s : State) (h : unseen a s = true) :
    unseen a (takeCheckpoint s) = true := by
  unfold takeCheckpoint
  split
  · dsimp only
    split
    · simpa [unseen] using h
    · exact raiseAlert_unseen a .store _ (by simpa [unseen] using h)
  · exact h

/-! ### ACE -/

theorem judgeEmergency_ace (s : State) :
    (judgeEmergency s).ace =
      { s.ace with em := match s.ace.em with
          | .inUse n => .inUse n
          | .unavailable => s.ace.offer
          | .offered => s.ace.offer } := by
  rcases hem : s.ace.em with _ | _ | n
  · unfold judgeEmergency
    simp only [hem]
    split <;> simp
  · unfold judgeEmergency
    simp only [hem]
    split <;> simp
  · unfold judgeEmergency
    simp only [hem]
    rw [← hem]

theorem judgeAccount_ace (s : State) : (judgeAccount s).ace = (judgeEmergency s).ace := by
  simp [judgeAccount, judgeEmergency_ace]

theorem charge_ace (q : Nat) (s : State) :
    (charge q s).ace = if q = 0 then s.ace else (judgeEmergency (s.setAce (s.ace.charged q))).ace := by
  unfold charge
  split
  · rfl
  · rw [judgeAccount_ace]

theorem setCause_same (k : Cause) (x : Bool) (s : State) (h : s.ssc.causes.has k = x) : setCause k x s = s := by
  simp [setCause, h]

/-! ### A frame arrives whole -/

theorem receiveByte_good (s : State) (b : Byte) (h : s.psv.power.mainPowered = true)
    (hg : s.gapOver = false) :
    receiveByte s { value := b, stopOk := true } =
      match rxByte s.lkp.rx.state b with
      | (x, .complete t p) => judgeRequest t p (setRx x s)
      | (x, _) => setRx x s := by
  simp only [receiveByte, h, hg, if_true]
  rfl

@[simp] theorem setRx_setRx (x y : RxState) (s : State) : setRx x (setRx y s) = setRx x s := by
  simp [setRx, State.setLkp]

@[simp] theorem setRx_rx (x : RxState) (s : State) : (setRx x s).lkp.rx = { state := x, lastByte := s.now } := by
  simp [setRx]

theorem setRx_gapOver (x : RxState) (s : State) : (setRx x s).gapOver = false := by
  simp [State.gapOver]

theorem receive_payload (l : List Byte) (n : Nat) (t : Byte) (got : List Byte) (s : State)
    (h : s.psv.power.mainPowered = true) (hn : got.length + l.length = n) (hl : l ≠ []) :
    receive (goodBytes l) (setRx (.payload n t got) s) = setRx (.check t (got ++ l) none) s := by
  induction l generalizing got with
  | nil => exact absurd rfl hl
  | cons b l ih =>
    have hg := setRx_gapOver (.payload n t got) s
    simp only [goodBytes, List.map_cons, receive, List.foldl_cons]
    rw [receiveByte_good _ _ (by simpa using h) hg]
    by_cases hlast : l = []
    · subst hlast
      simp only [List.length_cons, List.length_nil] at hn
      simp [rxByte, ← hn]
    · have hlen : (got ++ [b]).length ≠ n := by
        have := List.length_pos_iff.mpr hlast
        simp only [List.length_append, List.length_cons, List.length_nil] at *
        omega
      have step := ih (got ++ [b]) (by simp only [List.length_append, List.length_cons, List.length_nil] at *; omega) hlast
      simp only [setRx_rx, rxByte, hlen, if_false, setRx_setRx]
      simpa [receive, goodBytes] using step

theorem crcBytes (c : BitVec 16) : ∃ a b : Byte, be 2 c.toNat = [a, b] ∧ a ++ b = c := by
  refine ⟨c.extractLsb' 8 8, c.extractLsb' 0 8, ?_, ?_⟩
  · simp only [be, List.cons.injEq, and_true]
    constructor
    · apply BitVec.eq_of_toNat_eq
      simp
    · apply BitVec.eq_of_toNat_eq
      simp
  · apply BitVec.eq_of_getLsbD_eq
    intro i hi
    simp only [BitVec.getLsbD_append, BitVec.getLsbD_extractLsb']
    by_cases h8 : i < 8
    · simp [h8]
    · have : i - 8 < 8 := by omega
      simp [h8, this, Nat.add_sub_cancel' (Nat.not_lt.mp h8)]

/-- A whole frame with a good CRC reaches a hunting assembler: it is judged as it completes (R188). -/
theorem receiveFrame_judged (t : Byte) (p : List Byte) (s : State) (h : s.psv.power.mainPowered = true)
    (hr : s.lkp.rx.state = .hunt) (hp : p.length ≤ 60) :
    receiveFrame t p s = judgeRequest t p (setRx .hunt s) := by
  have hg : s.gapOver = false := by simp [State.gapOver, hr]
  have hlen : (BitVec.ofNat 8 p.length).toNat = p.length := by
    simp only [BitVec.toNat_ofNat]; omega
  have hcrc := crcBytes (crc16 (covered t p))
  obtain ⟨a, b, hab, habc⟩ := hcrc
  have key : receive (goodBytes (covered t p ++ be 2 (crc16 (covered t p)).toNat)) (setRx .length s) =
      judgeRequest t p (setRx .hunt s) := by
    have hm (x : RxState) : (setRx x s).psv.power.mainPowered = true := by simpa using h
    have tail : receive (goodBytes [a, b]) (setRx (.check t p none) s) = judgeRequest t p (setRx .hunt s) := by
      simp only [goodBytes, List.map_cons, List.map_nil, receive, List.foldl_cons, List.foldl_nil]
      rw [receiveByte_good _ _ (hm _) (setRx_gapOver _ _)]
      simp only [setRx_rx, rxByte, setRx_setRx]
      rw [receiveByte_good _ _ (hm _) (setRx_gapOver _ _)]
      simp [rxByte, habc]
    have head : receive (goodBytes (covered t p)) (setRx .length s) = setRx (.check t p none) s := by
      simp only [covered, goodBytes, List.map_cons, receive, List.foldl_cons]
      rw [receiveByte_good _ _ (hm _) (setRx_gapOver _ _)]
      simp only [setRx_rx, rxByte, hlen, hp, if_true, setRx_setRx]
      rw [receiveByte_good _ _ (hm _) (setRx_gapOver _ _)]
      by_cases hz : p = []
      · subst hz
        simp [rxByte]
      · have hne : p.length ≠ 0 := by simpa using hz
        simp only [setRx_rx, rxByte, hne, if_false, setRx_setRx]
        simpa [receive, goodBytes] using receive_payload p p.length t [] s h (by simp) hz
    rw [hab]
    simp only [goodBytes, List.map_append, receive, List.foldl_append] at *
    rw [head]
    exact tail
  simp only [receiveFrame, frame, goodBytes, List.cons_append, List.map_cons, receive, List.foldl_cons]
  rw [receiveByte_good _ _ h hg]
  simp only [hr, rxByte, if_true]
  exact key

end Sys2Proof.Machine
end

