-- ==== Sys2Proof/Tests/Slice0.lean ====
section
/-! SUPPORT. The model's own tests: an ill-formed term for each check of WellFormed, figures worked in the manual, and for each obligation that has hypotheses a state and operands that meet them, clause by clause. -/

namespace Sys2Proof.Tests

open Sys2Proof Sys2Proof.Machine

set_option maxRecDepth 50000

/-! ### Ill-formed commands -/

theorem test_wf_payload_too_long : (Instr.ident (List.replicate 61 0#8)).wf = false := by decide
theorem test_wf_provision_too_long : (Instr.provision (List.replicate 61 0#8)).wf = false := by decide
theorem test_wf_submit_too_long : (Instr.submit (List.replicate 61 0#8)).wf = false := by decide
theorem test_wf_snapshot_too_long : (Instr.snapshot (List.replicate 61 0#8)).wf = false := by decide
theorem test_wf_readTariff_too_long : (Instr.readTariff (List.replicate 61 0#8)).wf = false := by decide
theorem test_wf_readTamper_too_long : (Instr.readTamper (List.replicate 61 0#8)).wf = false := by decide
theorem test_wf_readHistory_too_long : (Instr.readHistory (List.replicate 61 0#8)).wf = false := by decide
theorem test_wf_readRedeemed_too_long : (Instr.readRedeemed (List.replicate 61 0#8)).wf = false := by decide
theorem test_wf_readAlerts_too_long : (Instr.readAlerts (List.replicate 61 0#8)).wf = false := by decide
theorem test_wf_clearAlerts_too_long : (Instr.clearAlerts (List.replicate 61 0#8)).wf = false := by decide
theorem test_wf_trimClock_too_long : (Instr.trimClock (List.replicate 61 0#8)).wf = false := by decide
theorem test_wf_unknown_too_long : (Instr.unknownRequest 12#8 (List.replicate 61 0#8)).wf = false := by decide
theorem test_wf_unknown_names_a_request : (Instr.unknownRequest 11#8 []).wf = false := by decide
theorem test_wf_frame_is_whole :
    (Instr.frameDiscard ((frame 1 []).map fun b => { value := b, stopOk := true })).wf = false := by decide
theorem test_wf_frame_goes_on : (Instr.frameDiscard [{ value := 0xA5#8, stopOk := true }]).wf = false := by decide
theorem test_wf_gap_outside_a_frame :
    (Instr.frameGapTimeout [{ value := 0x11#8, stopOk := true }]).wf = false := by decide

/-! ### States of the tests -/

/-- The state a command leaves, the state itself where it stops. -/
def after (c : Instr) (s : State) : State :=
  match exec c s with
  | .next t => t
  | .fault _ => s
  | .refused _ => s

/-- A step that answers a next state. -/
def goesOn (o : Host.Outcome State Fault Refusal) : Bool :=
  match o with
  | .next _ => true
  | .fault _ => false
  | .refused _ => false

def testComm : Commission := { meter := List.replicate 12 0x31#8, p := 1000 }

def armed (n : Nat) : Detector := { armed := true, count := 0, since := n }

def testKey : BitVec 64 := 0x0123456789ABCDEF#64

/-- A commissioned part in RUN, CLOSED, with credit and a VALID clock (day 8,400, 23:58:30, as in "Trims around midnight"). -/
def calm : State :=
  { State.reset with
    comm := some testComm
    pins := { pinsAtReset with mainsOk := true, loadSense := true }
    psv := { power := .run, bramValid := true, stable := 2048, reset := armed 32, applied := 0 }
    miu := { Miu.blank with
      line := { Channel.blank with det := armed 4 }, ret := { Channel.blank with det := armed 4 }
      window := some { start := 0, nL := 0, nR := 0, rev := 0, openThroughout := false }, view := some .closed }
    ace := { Ace.factory with c := 250000, creditApplied := 250000, lc := 200000, lastQ := 806495 }
    ctu := { Ctu.factory with
      clock := { count := 725846310, valid := true, sub := 0 }
      active := { Tariff.factory with rates := #v[2815, 0, 0, 0], standing := 1234567 } }
    cru := { Cru.factory with key := some testKey }
    ssc := { Ssc.factory with
      state := .closed, causes := { credit := false, tamper := false, overload := false, remote := false }
      low := false, ledPattern := .steady, accept := armed 1024 } }

def withAce (s : State) (f : Ace → Ace) : State := s.setAce (f s.ace)
def withSsc (s : State) (f : Ssc → Ssc) : State := s.setSsc (f s.ssc)
def withMiu (s : State) (f : Miu → Miu) : State := s.setMiu (f s.miu)
def withCtu (s : State) (f : Ctu → Ctu) : State := s.setCtu (f s.ctu)
def withStc (s : State) (f : Stc → Stc) : State := s.setStc (f s.stc)
def withPower (s : State) (p : Power) : State := s.setPsv { s.psv with power := p }

/-! ### The manual's figures -/

/-- Section 4.4, "Making a code". -/
theorem test_check_value : checkOf 0 37 500000#32 = 991524 := by decide
/-- Section 4.4, the table of spot values. -/
theorem test_mixing_function : mixF 1#36 0#36 = 8389120#36 ∧ mixF 0#36 34359738368#36 = 256#36 := by decide
/-- Section 4.4, the table of spot values. -/
theorem test_round_keys :
    [0, 1, 2, 3, 4, 5].map (roundKey 1099511627776#64) =
      [0#36, 34359738368#36, 1073741824#36, 33554432#36, 1048576#36, 32768#36] := by decide
/-- Section 10.5: the plain value of the CREDIT code of sequence 37. -/
theorem test_plain_value : plainOf 0 37 500000#32 = 0x000250007A120F2124#72 := by decide
/-- Section 1.10: 709 ticks at P = 1,000. -/
theorem test_demand : demandOf 1000 709 = 5199 := by decide
/-- Section 1.8: thresholds and judgements. -/
theorem test_imbalance :
    imbalanceThreshold 120 180 = 22 ∧ isImbalanced 121 179 = true ∧ isImbalanced 150 160 = false ∧
      isImbalanced 3 7 = false ∧ isImbalanced 3 8 = true := by decide

/-- Section 2.3, "three pulses at the floor". -/
theorem test_three_pulses :
    let s := withAce calm fun a => { a with c := 4, creditApplied := 4 }
    let t := billPulses 3 s
    t.ace.d = 445 ∧ t.ace.c = 0 ∧ t.ace.b = 4 ∧ t.ace.balanceCharges = 4 ∧ t.ace.debtCharges = 4 ∧
      t.ace.reg[0] = 3 ∧ t.ssc.causes.credit = true := by decide

/-- Section 2.4, "the standing residue": the fourteenth tick charges one step more. -/
theorem test_standing_residue :
    let s := withAce calm fun a => { a with c := 1000000, q := 91 }
    (standingCharge s).ace.q = 2 ∧ (standingCharge s).ace.c = 1000000 - 12861 := by decide

/-- Section 2.6, "top-up with debt recovery". -/
theorem test_top_up :
    let s := withSsc (withAce calm fun a =>
      { a with c := 0, b := 80000, share := 25, creditApplied := 1200000, balanceCharges := 1200000 })
      fun x => { x with causes := { x.causes with credit := true } }
    let t := topUp 500000 s
    s.ace.prospective 500000 = 420000 ∧ t.ace.c = 420000 ∧ t.ace.b = 0 ∧ t.ace.creditApplied = 1620000 ∧
      t.ace.debtRecovered = 80000 ∧ t.ssc.causes.credit = false := by decide

/-- Section 2.11: the top-up that ends the advance. -/
theorem test_advance_ends :
    let s := withSsc (withAce calm fun a =>
      { a with c := -100000, b := 5000, share := 25, e := 100000, em := .inUse 100000 })
      fun x => { x with state := .opened, low := true, causes := { x.causes with credit := true } }
    let t := topUp 300000 s
    t.ace.c = 195000 ∧ t.ace.b = 0 ∧ t.ace.em = .offered ∧ t.ssc.causes.credit = false ∧
      unseen .emergency t = true ∧ unseen .lowCredit t = false := by decide

/-- Section 3.3, "trims around midnight": +100 with 50 used, and −100 after midnight. -/
theorem test_trims :
    let s := withCtu calm fun c => { c with trim := some { day := 8400, advance := 50, retard := 0 } }
    let m := withCtu calm fun c =>
      { c with clock := { c.clock with count := 725846420 }, trim := some { day := 8400, advance := 120, retard := 0 } }
    (trimClock 100 s).1 = 70 ∧ (trimClock 100 s).2.ctu.clock.count = 725846380 ∧
      (trimClock (-100) m).1 = -100 ∧
      (trimClock (-100) m).2.ctu.trim = some { day := 8401, advance := 0, retard := 100 } := by decide

/-- The tariff of section 3.6, "a profile read". -/
def sampleTariff : Tariff :=
  { Tariff.factory with
    switches := ((((Tariff.factory.switches.set 0 { quarter := some 24, band := 1 }).set 1
      { quarter := some 68, band := 2 }).set 2 { quarter := some 84, band := 1 }).set 4
      { quarter := some 24, band := 3 })
    windows := (Tariff.factory.windows.set 0 { start := 72, stop := 88 }).set 1 { start := 92, stop := 4 }
    specials := Tariff.factory.specials.set 0 (some 8405) }

/-- Section 3.6, "a profile read". -/
theorem test_profile_read :
    [2, 10, 24, 70, 72, 88, 93].map (sampleTariff.bandAt 8402) = [1, 1, 3, 2, 2, 1, 1] ∧
      [2, 10, 24, 70, 72, 88, 93].map (sampleTariff.friendlyAt 8402) =
        [true, false, false, false, true, false, true] ∧
      sampleTariff.bandAt 8405 50 = 0 ∧ sampleTariff.friendlyAt 8405 50 = true ∧
      sampleTariff.friendlyAt 8407 2 = false := by decide

/-- A record of the redeemed list with a sequence. -/
def rec (seq : Nat) : RedeemedRecord := { seq := seq, cls := 0, amount := 1, time := .secs 0, number := 1 }

/-- An entry of a class, sequence and payload. -/
def testEntry (cls seq : Nat) (payload : BitVec 32) : JournalEntry :=
  { number := 1, cls := cls, seq := seq, payload := payload, time := .secs 725846310 }

/-- Section 4.5, "the window at work". -/
theorem test_window_at_work :
    let c : Cru := { Cru.factory with h := some 100, redeemed := [rec 95, rec 97, rec 100] }
    let c1 := (c.record (testEntry 0 98 1#32)).record (testEntry 0 69 1#32)
    let c2 := c1.record (testEntry 0 126 1#32)
    sequenceCheck 98 c = none ∧ sequenceCheck 97 c = some .used ∧ sequenceCheck 68 c = some .stale ∧
      sequenceCheck 69 c = none ∧ c1.redeemed.map (·.seq) = [69, 95, 97, 98, 100] ∧
      c2.redeemed.map (·.seq) = [95, 97, 98, 100, 126] ∧ sequenceCheck 94 c2 = some .stale ∧
      (c2.record (testEntry 0 200 1#32)).redeemed.map (·.seq) = [200] := by decide

/-! ### Single commands -/

/-- The table gives its rows no bits, so no word spells a command (log entry 1). -/
theorem test_no_word_spells_a_command :
    decodeTableWord 16 0x0102 = none ∧ calm.withFetchWord 16 0x0102 = calm := by decide

/-- Section 1.10: the fifth pulse of the overload opens the supply. -/
theorem test_overload_trip :
    let s := (withMiu calm fun m =>
      { m with wLim := 5000, line := { m.line with lastAt := some 0, overRun := 3 } }).setNow 709
    let t := after (.linePulseAccepted false) s
    t.ssc.state = .opening ∧ t.ssc.causes.overload = true ∧ t.miu.line.overRun = 0 ∧ t.openDrive = false := by decide

/-- Section 1.8, window 3: IMBALANCE becomes active with side RETURN, and 58 surplus pulses are billed. -/
theorem test_window_three :
    let s := (withMiu calm fun m =>
      { m with
        window := some { start := 0, nL := 121, nR := 179, rev := 0, openThroughout := false }
        imbRun := 2 }).setNow 61440
    let t := after .windowExpiry s
    t.miu.imbalance = some .ret ∧ t.miu.imbRun = 3 ∧ t.ace.reg[0] = 58 ∧ t.ace.d = 58 * 2815 % 1000 := by decide

/-- A whole IDENT frame is answered with the part's constants and its meter number. -/
theorem test_ident_reply :
    (after (.ident []) calm).lkp.outbox =
      [{ status := .ok, type := 1
         payload := [0x57#8, 0xD3#8, 0#8, 0x40#8, 3#8, 1#8] ++ List.replicate 12 0x31#8 ++ [3#8, 0xE8#8, 2#8] }] := by
  decide

/-- The code of section 4.11 as the issuing system makes it is accepted, and its journal write starts in slot 0. -/
theorem test_submit_accepted :
    let t := after (.submit (issuedCode testKey 0 37 500000#32)) calm
    t.lkp.inService = some 3 ∧ t.stc.write.map (·.slot) = some 0 ∧
      t.cru.inFlight.map (fun e => (e.cls, e.seq, e.payload)) = some (0, 37, 500000#32) := by decide

/-- One changed digit is refused CHECK, and the rejection run starts. -/
theorem test_submit_mistyped :
    let code := issuedCode testKey 0 37 500000#32
    let bad := code.set 21 (if code.getD 21 0#8 = 0x30#8 then 0x31#8 else 0x30#8)
    let t := after (.submit bad) calm
    t.lkp.outbox = [{ status := .refused, type := 3, payload := [6#8] }] ∧ t.cru.run.map (·.count) = some 1 := by
  decide

/-- A press in ARMED drives the closing coil where the reservoir is ready. -/
theorem test_press_closes :
    let s := (withSsc calm fun x => { x with state := .armed }).setPins { calm.pins with reservoirReady := true }
    let t := after .acceptPress s
    t.ssc.state = .closing ∧ t.closeDrive = true ∧ t.openDrive = false := by decide

/-- MAINS_OK's fall leaves RUN for HOLDUP with the save in flight. -/
theorem test_mains_falls :
    let t := after .mainsOkFall calm
    t.psv.power = .holdup ∧ t.tmn.history.map (·.kind) = [.powerDown] ∧ t.stc.saving = true := by decide

/-! ### Witnesses: states and operands that meet each obligation's hypotheses -/

theorem test_witness_StepRunsFrontCommand :
    (calm.setPending [.mainsOkFall, .flashSlotEnd]).pending = [.mainsOkFall, .flashSlotEnd] := by decide

theorem test_witness_IdleStep :
    calm.pending = [] ∧ dueEvents calm = [] ∧
      dueEvents (withMiu calm fun m => { m with flashSlot := some 103 }) = [.flashSlotEnd] := by decide

/-- The five invariants hold of a running part whose step answers a next state. -/
theorem test_witness_Invariants :
    let s := calm.setPending [.linePulseAccepted false]
    storeTidy s = true ∧ accountsLawful s = true ∧ creditTrue s = true ∧ listsBounded s = true ∧
      drivesSound s = true ∧ goesOn (step s) = true := by decide

theorem test_witness_LinkFrameRoundTrip : (List.replicate 60 0xA5#8).length ≤ 60 := by decide

theorem test_witness_IssuedCodeRoundTrip : 15 < 16 ∧ 65535 < 65536 := by decide

/-- At quarter 24 slot 4 ties with slot 0 and wins; at quarter 2 no point is at or before; profile 1 has none. -/
theorem test_witness_BandFollowsTheSwitchPoints :
    (∀ p ∈ sampleTariff.switches.toList, ∀ q, p.quarter = some q → q ≤ 95) ∧
    (let l := sampleTariff.points 0
     (l[4]? = some { quarter := some 24, band := 3 } ∧ ∀ (j r : Nat) (c : Fin 4),
       l[j]? = some { quarter := some r, band := c } → r ≤ 24 → r < 24 ∨ (r = 24 ∧ j ≤ 4)) ∧
     (∀ (j r : Nat) (c : Fin 4), l[j]? = some { quarter := some r, band := c } → 2 < r) ∧
     l[2]? = some { quarter := some 84, band := 1 } ∧
     ∀ (j r : Nat) (c : Fin 4), l[j]? = some { quarter := some r, band := c } → r < 84 ∨ (r = 84 ∧ j ≤ 2)) ∧
    ∀ p ∈ sampleTariff.points 1, p.quarter = none := by
  have hl : sampleTariff.points 0 = [{ quarter := some 24, band := 1 }, { quarter := some 68, band := 2 },
      { quarter := some 84, band := 1 }, { quarter := none, band := 0 }, { quarter := some 24, band := 3 },
      { quarter := none, band := 0 }] := by decide
  have hs : sampleTariff.switches.toList = sampleTariff.points 0 ++ sampleTariff.points 1 := by decide
  have h1 : sampleTariff.points 1 = List.replicate 6 { quarter := none, band := 0 } := by decide
  refine ⟨?_, ⟨⟨by rw [hl]; rfl, ?_⟩, ?_, by rw [hl]; rfl, ?_⟩, ?_⟩
  · rw [hs, hl, h1]
    intro p hp q hq
    simp at hp
    rcases hp with rfl | rfl | rfl | rfl | rfl | rfl <;> simp at hq <;> omega
  all_goals try
    rw [hl]
    intro j r c h
    rcases j with _ | _ | _ | _ | _ | _ | j <;> simp at h <;> omega
  rw [h1]
  intro p hp
  simp at hp
  simp [hp]

theorem test_witness_FriendlyFlagFollowsTheWindows :
    State.reset.ctu.clock.valid = false ∧ calm.ctu.clock.valid = true := by decide

/-- H absent; a new top; the window's lowest sequence, free and taken; one below it; H at 30. -/
theorem test_witness_SequenceWindowTable :
    let c : Cru := { Cru.factory with h := some 40, redeemed := [rec 9, rec 40] }
    let d : Cru := { Cru.factory with h := some 40, redeemed := [rec 40] }
    let e : Cru := { Cru.factory with h := some 30, redeemed := [rec 30] }
    Cru.factory.h = none ∧ (c.h = some 40 ∧ 40 < 41) ∧ (d.h = some 40 ∧ 9 ≤ 40 ∧ 40 ≤ 9 + 31 ∧ ∀ r ∈ d.redeemed, r.seq ≠ 9) ∧
      (∃ r ∈ c.redeemed, r.seq = 9) ∧ 8 + 31 < 40 ∧ e.h = some 30 := by decide

theorem test_witness_RedeemedListKeepsItsWindow :
    let c : Cru := { Cru.factory with h := some 40, redeemed := [rec 9, rec 40] }
    c.windowed ∧ sequenceCheck 41 c = none ∧ sequenceCheck 10 c = none ∧ Cru.factory.windowed := by
  simp [Cru.windowed, sequenceCheck, Cru.factory, rec]

theorem test_witness_TwoChargesCommute :
    let a := { Ace.factory with c := 4, creditApplied := 4 }
    0 < 3 ∧ a.floor ≤ a.c ∧ a.b ≤ Config.debtMax ∧ a.balanceCharges ≤ Config.totalMax ∧
      a.debtCharges ≤ Config.totalMax := by decide

theorem test_witness_PulsesChargeExactlyTheRate :
    calm.comm = some testComm ∧ 0 < testComm.p ∧ calm.ace.d < testComm.p ∧ calm.ace.floor ≤ calm.ace.c ∧
      calm.ace.reg[calm.ctu.band] < 10000000000 ∧
      calm.ace.balanceCharges + (calm.ace.d + 3 * calm.ctu.active.rates[calm.ctu.band]) / testComm.p ≤ Config.totalMax ∧
      calm.ace.debtCharges + (calm.ace.d + 3 * calm.ctu.active.rates[calm.ctu.band]) / testComm.p ≤ Config.totalMax := by
  decide

/-! Power and start-up. -/

def writing (s : State) (slot : Nat) (second : Bool) (job : WriteJob) : State :=
  withStc s fun x => { x with write := some { slot := slot, second := second, job := job } }

/-- The checkpoint of `calm`, with no tariff pending. -/
def testContent : Checkpoint := capture testComm calm

/-- A store whose slot 0 holds a checkpoint. -/
def stored (s : State) : State := withStc s fun x => { x with checkpoints := x.checkpoints.set 0 (.holding testContent) }

theorem test_witness_PowerOnStartsCold :
    State.reset.psv.power = .off ∧ storeAtRest State.reset = true := by decide

/-- With the write path free and with a write in flight; a RESET as well; and an UNCOMMISSIONED part. -/
theorem test_witness_MainsFallOrResetEntersHoldup :
    let busy := writing calm 3 false (.journal (testEntry 0 1 1#32))
    (calm.psv.power = .run ∧ calm.comm = some testComm ∧ storeAtRest calm = true ∧
      calm.stc.checkpointSlot.isSome = true ∧ calm.psv.reset.armed = true) ∧
    (storeAtRest busy = true ∧ busy.stc.write.isSome = true) ∧
    (let u := calm.setComm none
     u.psv.power = .run ∧ storeAtRest u = true ∧ u.comm = none ∧ u.psv.reset.armed = true ∧ u.pins.mainsOk = true ∧
      u.pins.vbat = true ∧ u.psv.bramValid = true) := by decide

theorem test_witness_ResetInStartupBeginsAgain :
    let s := withPower calm (.startup 4 .warm)
    s.psv.power = .startup 4 .warm ∧ s.psv.reset.armed = true := by decide

/-- Both commands, with and without VBAT, with valid battery RAM, and with a write in flight. -/
theorem test_witness_PowerGivesOut :
    let h := writing (withPower calm .holdup) 3 false (.journal (testEntry 0 1 1#32))
    let u := (withPower calm (.startup 4 .warm)).setPins { calm.pins with vbat := false }
    h.psv.power = .holdup ∧ h.stc.write.isSome = true ∧ h.pins.vbat = true ∧ h.psv.bramValid = true ∧
      u.psv.power = .startup 4 .warm ∧ u.pins.vbat = false := by decide

theorem test_witness_VbatExhaustedLosesBatteryRam :
    (withPower calm .battery).psv.power = .battery ∧ calm.psv.power ≠ .battery ∧ storeAtRest calm = true := by decide

/-- The one-shot of each tamper input at its end, in RUN and in BATTERY, high and low, changed and unchanged. -/
theorem test_witness_InputsAreSampled_one_shots :
    [Switch.cover, .terminal, .magnet].all (fun sw => [Power.run, .battery].all fun w => [true, false].all fun p =>
      [true, false].all fun l =>
        let x := (withPower calm w).setTmn (calm.tmn.setDebounce sw { last := p, shot := some 512, level := l })
        let y := x.setPins { x.pins with cover := p, terminal := p, magnet := p }
        (y.tmn.debounce sw).shot == some 512 && pinLevel y.pins sw == p && (y.tmn.debounce sw).level == l &&
          y.psv.power == w && y.psv.bramValid && storeAtRest y && y.comm.isSome && conductingSettled y) = true := by
  decide

/-- A battery exchanged in RUN is found by the next loss of mains (R174). -/
theorem test_battery_exchanged :
    let s := after (.vbatExhausted false) (after (.vbatExhausted true) calm)
    s.pins.vbat = true ∧ (after (.saveComplete true) (after .mainsOkFall s)).psv.power = .battery := by decide

/-- A flash queued at an idle flasher lights PULSE_LED at once, for 31 ticks of its slot (R6). -/
theorem test_flash_lit :
    let lit := fun (slot : Option Nat) (n : Nat) => (withMiu calm fun m => { m with flashSlot := slot, flashPending := n }).pulseLed
    lit none 1 = true ∧ lit none 0 = false ∧ lit (some 30) 0 = true ∧ lit (some 31) 0 = false := by decide

/-- A good end, a second bad end, and a first bad end with a slot left for the second attempt. -/
theorem test_witness_SaveEndLeavesHoldup :
    let s := writing (withPower calm .holdup) 15 false (.save testContent)
    s.psv.power = .holdup ∧ s.stc.write = some { slot := 15, second := false, job := .save testContent } ∧
      (({ s.stc with checkpoints := s.stc.checkpoints.setIfInBounds 15 .bad } : Stc).judged).checkpointSlot = some 0 := by
  decide

/-- From BATTERY and from STARTUP, cold and warm, with LOAD_SENSE absent and present. -/
theorem test_witness_BlankStoreStartsUncommissioned :
    (∀ l ∈ [false, true], ∀ p ∈ [Power.battery, .startup 1 .cold, .startup 1 .warm],
      let s := (withPower calm p).setPins { calm.pins with loadSense := l }
      s.psv.power = p ∧ s.pins.mainsOk = true ∧ s.stc.write = none ∧ s.stc.chosen = none ∧ s.pins.loadSense = l) ∧
    (withMiu calm fun m => { m with window := none }).miu.window = none := by decide

/-- A start with the supply in a state at the save, LOAD_SENSE as given, and pulses held on both channels. -/
def restarted (p : Power) (st : SupplyState) (k : Causes) (present : Bool) (line ret : Nat) : State :=
  let c := { testContent with supply := st, causes := k, ace := if k.credit then { testContent.ace with c := 0 } else testContent.ace }
  ((withMiu (withStc (withPower calm p) fun x => { x with checkpoints := x.checkpoints.set 0 (.holding c) }) fun m =>
    { m with window := none, line := { m.line with held := line }, ret := { m.ret with held := ret } }).setPins
      { calm.pins with loadSense := present }).setPsv { calm.psv with power := p, bramValid := false, stable := 0 }

def noCause : Causes := { credit := false, tamper := false, overload := false, remote := false }

/-- From STARTUP with pulses held and from BATTERY, in states whose comparison makes no run and in states whose comparison makes one. -/
theorem test_witness_ColdStartRestoresTheCheckpoint :
    (∀ x ∈ [(SupplyState.closed, noCause, true), (.closed, noCause, false), (.opened, { noCause with remote := true }, true),
        (.stuckOpen, noCause, true), (.stuckClosed, noCause, false), (.warning, { noCause with credit := true }, true)],
      ∀ p ∈ [Power.startup 1 .cold, .battery],
        let s := restarted p x.1 x.2.1 x.2.2 3 5
        s.psv.power = p ∧ s.psv.bramValid = false ∧ s.miu.line.held = 3 ∧ s.miu.ret.held = 5 ∧ s.miu.window = none ∧ s.miu.flashPending ≤ 255 ∧
          s.pins.mainsOk = true ∧ s.stc.write = none ∧ (s.stc.chosen.map (·.1)) = some 0 ∧
          (s.stc.chosen.map (·.2.supply)) = some x.1 ∧ s.stc.entryNumbered (testContent.folded + 1) = none) ∧
    testContent.ace.d < testContent.comm.p ∧ testContent.ace.reg[0] < 10000000000 ∧
    testContent.ace.floor ≤ testContent.ace.c ∧
    testContent.ace.balanceCharges + (testContent.ace.d + 3 * testContent.active.rates[0]) / testContent.comm.p ≤
      Config.totalMax ∧
    testContent.ace.debtCharges + (testContent.ace.d + 3 * testContent.active.rates[0]) / testContent.comm.p ≤
      Config.totalMax := by decide

/-- R132's table, R20 and R182 on a cold start: what the comparison leaves, and the held pulses billed where RUN is entered. -/
theorem test_cold_start_ends :
    (let t := after .mainsStable (restarted (.startup 1 .cold) .closed noCause true 3 5)
     t.psv.power = .run ∧ t.ssc.state = .closed ∧ t.ace.d = 445 ∧ t.ace.c = 250000 - 8 ∧ t.miu.flashPending = 3 ∧
      (t.miu.window.map fun w => (w.nL, w.nR)) = some (3, 5) ∧ t.miu.ret.held = 0 ∧
      unseen .restart t = true ∧ unseen .clock t = true ∧ unseen .tamper t = false) ∧
    (let t := after .mainsStable (restarted (.startup 1 .cold) .closed noCause false 3 5)
     t.psv.power = .startup 4 .cold ∧ t.ssc.state = .closing ∧ t.ssc.run.map (·.dir) = some .toClose ∧ t.miu.line.held = 3) ∧
    (let t := after .mainsStable (restarted (.startup 1 .cold) .opened { noCause with remote := true } true 3 5)
     t.ssc.state = .opening ∧ t.ssc.run.map (·.dir) = some .toOpen) ∧
    (let t := after .mainsStable (restarted (.startup 1 .cold) .stuckOpen noCause true 3 5)
     t.ssc.state = .stuckOpen ∧ t.tmn.records[6].active = true ∧ t.psv.power = .run) := by decide

/-- With the battery mark set, a slot left for its checkpoint, and a comparison that makes a run and one that makes none. -/
theorem test_witness_WarmStartCatchesUp :
    ∀ l ∈ [false, true],
    let s := ((withCtu (stored (withPower calm (.startup 1 .warm))) fun c =>
      { c with clock := { c.clock with count := 725847300 } }).setTmn { calm.tmn with mark := true }).setPins
        { calm.pins with loadSense := l }
    s.psv.power = .startup 1 .warm ∧ s.miu.line.held = 0 ∧ s.pins.mainsOk = true ∧ s.stc.write = none ∧
      s.stc.chosen = some (0, testContent) ∧ s.stc.entryNumbered (testContent.folded + 1) = none ∧
      s.ctu.clock.valid = true ∧ testContent.pendingTariff = .none ∧ testContent.ace.floor ≤ testContent.ace.c ∧
      testContent.ace.q < 96 ∧ testContent.supply = .closed ∧ s.tmn.mark = true ∧
      ({ s.stc with newest := some { slot := 0, number := testContent.number, folded := testContent.folded } } :
        Stc).checkpointSlot = some 1 ∧
      testContent.ace.balanceCharges + (testContent.ace.q + (absQuarterOf s.ctu.clock.count - testContent.ace.lastQ) *
        testContent.active.standing) / 96 ≤ Config.totalMax ∧
      testContent.ace.debtCharges + (testContent.ace.q + (absQuarterOf s.ctu.clock.count - testContent.ace.lastQ) *
        testContent.active.standing) / 96 ≤ Config.totalMax ∧
      testContent.ace.lastQ < absQuarterOf s.ctu.clock.count := by decide

/-- Three entries above the folded number and one beyond a gap, at a warm start and at a cold one: a CREDIT, an untaken POLICY and an untaken CLOCK. -/
theorem test_witness_StartReplaysTheJournal :
    let n := testContent.folded
    let e := fun (j cls : Nat) (p : BitVec 32) => { testEntry cls j p with number := n + j : JournalEntry }
    let es := [e 1 0 500#32, e 2 10 0x702#32, e 3 11 725850000#32]
    let held := stored (withStc calm fun x => { x with
      journal := (((x.journal.set 5 (.holding (e 1 0 500#32))).set 6 (.holding (e 2 10 0x702#32))).set 7
        (.holding (e 3 11 725850000#32))).set 0 (.holding (e 5 0 900#32)) })
    let w := withPower held (.startup 1 .warm)
    let b := held.setPsv { held.psv with power := .battery, bramValid := false }
    (w.psv.power = .startup 1 .warm ∧ w.miu.line.held = 0 ∧ w.pins.mainsOk = true ∧ w.stc.write = none ∧
      w.stc.chosen = some (0, testContent) ∧ es.length ≤ 8 ∧
      (∀ j, j ≤ es.length → w.stc.entryNumbered (n + 1 + j) = es[j]?) ∧ w.psv.applied < n + 2 ∧
      parseAction 10 0x702#32 = some (.policy .codeFlood .openSupply) ∧
      parseAction 11 725850000#32 = some (.clock 725850000) ∧ w.ctu.clock.valid = true ∧
      (e 3 11 725850000#32).time = .secs 725846310 ∧
      725850000 + (w.ctu.clock.count - 725846310) ≤ 4294967295) ∧
    (b.psv.power = .battery ∧ b.psv.bramValid = !true ∧ b.stc.chosen = some (0, testContent)) ∧
    ((after .mainsStable w).stc.unfolded = [n + 1, n + 2, n + 3] ∧
      (after .mainsStable w).ace.creditApplied = 250500 ∧ (after .mainsStable w).stc.nextJournal = n + 6) := by decide

/-! Metering. -/

/-- With a last acceptance at the greatest period, an advance in use, and a charge above 0; the calm case; and a demand at the limit, above it at run 2, and above it at run 3 with the supply CLOSED. -/
theorem test_witness_LinePulseIsBilled :
    let s := (withAce (withMiu calm fun m => { m with line := { m.line with lastAt := some 0 } })
      fun a => { a with em := .inUse 5 }).setNow 4194303
    let u := elapse (4 - s.miu.line.det.since) s
    (s.psv.power.running = true ∧ s.comm = some testComm ∧ 0 < testComm.p ∧ s.miu.line.det.armed = true ∧
      storeAtRest s = true ∧ s.ace.floor ≤ s.ace.c ∧ s.ace.b ≤ Config.debtMax ∧
      s.ace.balanceCharges ≤ Config.totalMax ∧ s.ace.debtCharges ≤ Config.totalMax ∧
      s.miu.line.lastAt = some 0 ∧ u.now - 0 ≤ 4194303 ∧ s.ace.em = .inUse 5) ∧
    (calm.miu.wLim = 0 ∧ calm.ace.em = .unavailable ∧ calm.ssc.causes.credit = false ∧ calm.ssc.low = false ∧
      0 < (calm.ace.d + calm.ctu.active.rates[calm.ctu.band]) / testComm.p ∧
      (calm.ace.lc : Int) + ((calm.ace.d + calm.ctu.active.rates[calm.ctu.band]) / testComm.p : Nat) < calm.ace.c) ∧
    (let o := fun (lim run : Nat) => (withMiu calm fun m =>
       { m with wLim := lim, line := { m.line with lastAt := some 0, overRun := run } }).setNow 709
     let demand := min 65535 (3686400000 / (testComm.p * ((elapse (4 - (o 0 0).miu.line.det.since) (o 0 0)).now - 0)))
     demand ≤ 5199 ∧ 5198 < demand ∧ (o 5198 2).miu.line.overRun = 2 ∧ (o 5198 3).miu.line.overRun = 3 ∧
      (o 5198 3).ssc.causes.overload = false ∧ (o 5198 3).ssc.causes.tamper = false ∧
      (o 5198 3).ssc.causes.remote = false ∧ (o 5198 3).miu.view = some (o 5198 3).ssc.state ∧
      (o 5198 3).ssc.state = .closed ∧ (o 5198 3).miu.line.det.armed = true) := by decide

/-- A pulse that brings C to the floor, in CLOSED without and with the friendly flag, in ARMED and in OPEN, with emergency credit to offer. -/
def lastSteps (st : SupplyState) (friendly : Bool) (k : Causes) : State :=
  withSsc (withAce calm fun a => { a with c := 2, creditApplied := 2, e := 100000, lc := 1 }) fun x =>
    { x with state := st, friendly := friendly, causes := k }

theorem test_witness_LinePulseIsBilled_to_the_floor :
    (∀ st ∈ [SupplyState.closed, .armed, .opened], ∀ f ∈ [false, true],
      let s := lastSteps st f noCause
      s.psv.power.running = true ∧ s.comm = some testComm ∧ s.miu.line.det.armed = true ∧ storeAtRest s = true ∧
        s.ace.floor ≤ s.ace.c ∧ s.ace.em = .unavailable ∧ s.ssc.low = false ∧ s.miu.wLim = 0 ∧
        s.ssc.causes.isEmpty = true ∧ s.ssc.state = st ∧ s.ssc.friendly = f ∧
        0 < (s.ace.d + s.ctu.active.rates[s.ctu.band]) / testComm.p ∧
        s.ace.c - ((s.ace.d + s.ctu.active.rates[s.ctu.band]) / testComm.p : Nat) ≤ s.ace.floor) ∧
    (let w := after (.linePulseAccepted false) (lastSteps .closed false noCause)
     let d := after (.linePulseAccepted false) (lastSteps .closed true noCause)
     w.ssc.state = .warning ∧ w.ssc.warn = some 0 ∧ w.warnOut = true ∧ unseen .lowCredit w = true ∧
      unseen .emergency w = true ∧ d.ssc.state = .deferred ∧ d.ssc.warn = none) := by decide

/-- W_lim 0; a demand at the limit; above it at run 2; above it at run 3 with the supply CLOSED. -/
theorem test_witness_ReturnPulseIsCountedAndTrips :
    let at_ := fun (lim run : Nat) => (withMiu calm fun m =>
      { m with wLim := lim, ret := { m.ret with lastAt := some 0, overRun := run } }).setNow 709
    let fits := fun s : State => s.psv.power.running = true ∧ s.comm = some testComm ∧ s.miu.ret.det.armed = true ∧
      storeAtRest s = true ∧ s.miu.ret.lastAt = some 0
    let demand := min 65535 (3686400000 / (testComm.p * ((elapse (4 - (at_ 0 0).miu.ret.det.since) (at_ 0 0)).now - 0)))
    fits (at_ 0 0) ∧ (fits (at_ 5199 0) ∧ demand ≤ 5199) ∧ (fits (at_ 5198 2) ∧ 5198 < demand) ∧
      (fits (at_ 5198 3) ∧ (at_ 5198 3).miu.ret.overRun = 3 ∧ (at_ 5198 3).ssc.causes.overload = false ∧
        (at_ 5198 3).miu.view = some (at_ 5198 3).ssc.state ∧ (at_ 5198 3).ssc.state = .closed) := by decide

theorem test_witness_PulsesOutsideBilling :
    let s := withPower calm (.startup 1 .warm)
    let u := calm.setComm none
    (s.miu.line.det.armed = true ∧ s.miu.ret.det.armed = true ∧ storeAtRest s = true ∧
      s.psv.power = .startup 1 .warm) ∧
    (u.miu.line.det.armed = true ∧ u.miu.ret.det.armed = true ∧ storeAtRest u = true ∧
      u.psv.power.running = true ∧ u.comm = none) := by decide

/-- An imbalanced window, one at the threshold, and one OPEN throughout with REMOTE present and with CREDIT alone. -/
theorem test_witness_WindowExpiryJudges :
    let w := fun (l r : Nat) (o : Bool) => { start := 0, nL := l, nR := r, rev := 3, openThroughout := o : Window }
    let s := fun x : Window => withMiu calm fun m => { m with window := some x }
    let o := withSsc (withMiu calm fun m => { m with window := some (w 0 3 true), view := some .opened }) fun x =>
      { x with state := .opened, causes := { x.causes with remote := true } }
    (∀ x ∈ [w 3 8 false, w 3 7 false], (s x).psv.power.running = true ∧ (s x).comm = some testComm ∧
      0 < testComm.p ∧ (s x).ace.d < testComm.p ∧ (s x).miu.window = some x ∧ storeAtRest (s x) = true ∧
      (s x).miu.imbRun ≤ 3 ∧ (s x).miu.balRun ≤ 3 ∧ (s x).miu.flashPending ≤ 255) ∧
    max 4 (max 3 8 / 8) < max 3 8 - min 3 8 ∧ max 3 7 - min 3 7 ≤ max 4 (max 3 7 / 8) ∧
    (o.psv.power.running = true ∧ o.comm = some testComm ∧ o.ace.d < testComm.p ∧ o.miu.window = some (w 0 3 true) ∧
      storeAtRest o = true ∧ o.ssc.state = .opened ∧ heldOpen o = true ∧ o.miu.view = some .opened ∧
      conductingSettled o = true) ∧
    (let c := withAce (withSsc o fun x => { x with causes := { noCause with credit := true } }) fun a => { a with c := 0 }
     heldOpen c = true ∧ c.ssc.causes.remote = false ∧ (after .windowExpiry c).tmn.views.pulseSide = true) ∧
    calm.miu.view = some calm.ssc.state ∧ calm.ssc.state ≠ .opened ∧ (after .windowExpiry o).tmn.views.pulseSide = true := by decide

theorem test_witness_SmallTimersDoTheirOnePart :
    let s := withSsc (withMiu calm fun m =>
      { m with line := { m.line with lastAt := some 0, det := { armed := false, count := 4, since := 0 } }
               ret := { m.ret with lastAt := some 0, det := { armed := false, count := 4, since := 0 } }
               flashSlot := some 103 }) fun x => { x with warn := some 0, ledPattern := .doubleFlash, ledSegment := 3 }
    storeAtRest s = true ∧ s.miu.line.lastAt = some 0 ∧ s.miu.ret.lastAt = some 0 ∧ s.miu.flashSlot = some 103 ∧
      s.psv.power.mainPowered = true ∧ s.miu.line.det.armed = false ∧ s.miu.ret.det.armed = false ∧
      s.ssc.warn = some 0 ∧ s.ssc.ledPattern = .doubleFlash ∧ s.ssc.ledSegment = 3 ∧
      s.psv.power.startupUpTo 1 = false := by decide

/-! Clock and ticks. -/

/-- Inside a quarter, at the end of one, and at the greatest count. -/
theorem test_witness_ClockSecondCounts :
    let s := fun n : Nat => withCtu calm fun c => { c with clock := { c.clock with count := n } }
    (∀ n ∈ [725846310, 725846399, 4294967295], (s n).ctu.clock.valid = true ∧ storeAtRest (s n) = true ∧
      (s n).ssc.friendly = (s n).ctu.friendly ∧ (s n).psv.power.running = true ∧ (s n).commissioned = true) ∧
      725846311 % 900 ≠ 0 ∧ 725846400 % 900 = 0 := by decide

/-- The second that begins a friendly window finds WARNING, and the one that ends it finds DEFERRED; the roll-over finds DEFERRED. -/
theorem test_witness_ClockSecondCounts_friendly :
    let s := fun (st : SupplyState) (f : Bool) (n : Nat) => withSsc (withCtu calm fun c =>
      { c with clock := { c.clock with count := n }, active := sampleTariff, friendly := f }) fun x =>
        { x with state := st, friendly := f, warn := if st = .warning then some 7 else none }
    let day := 8402 * 86400
    (∀ x ∈ [(SupplyState.warning, false, day + 72 * 900 - 1), (.deferred, true, day + 88 * 900 - 1), (.deferred, true, 4294967295)],
      (s x.1 x.2.1 x.2.2).ctu.clock.valid = true ∧ storeAtRest (s x.1 x.2.1 x.2.2) = true ∧
      (s x.1 x.2.1 x.2.2).ssc.friendly = (s x.1 x.2.1 x.2.2).ctu.friendly) ∧
    (let t := after .clockSecond (s .warning false (day + 72 * 900 - 1))
     t.ctu.friendly = true ∧ t.ssc.state = .deferred ∧ t.ssc.warn = none) ∧
    (let t := after .clockSecond (s .deferred true (day + 88 * 900 - 1))
     t.ctu.friendly = false ∧ t.ssc.state = .warning ∧ t.ssc.warn = some 0) ∧
    (after .clockSecond (s .deferred true 4294967295)).ssc.state = .warning := by decide

/-- A named tick of a new day, one that is not above the last charged quarter, and a tick that names none. -/
theorem test_witness_TicksChargeTheStandingCharge :
    let s := fun q : Nat => withCtu calm fun c => { c with issued := some q, elapsed := some 921600 }
    (∀ q ∈ [806496, 806495], (s q).comm = some testComm ∧ (s q).psv.power.running = true ∧
      storeAtRest (s q) = true ∧ (s q).ace.floor ≤ (s q).ace.c ∧ (s q).ace.b ≤ Config.debtMax ∧
      (s q).ace.balanceCharges ≤ Config.totalMax ∧ (s q).ace.debtCharges ≤ Config.totalMax ∧
      (s q).ctu.pending = .none ∧ (s q).ctu.issued = some q ∧ (s q).ctu.elapsed = some 921600 ∧
      (s q).stc.write = none ∧ (s q).stc.saving = false) ∧
    calm.ace.lastQ < 806496 ∧ 806495 ≤ calm.ace.lastQ ∧ 806496 % 96 = 0 ∧ 806495 % 96 ≠ 0 := by decide

/-- A target that the tick just reaches, one just beyond it, the next tick, and a tick in STARTUP. -/
theorem test_witness_DueTariffBecomesActiveAtTick :
    let s := fun (p : Power) (g : Target) => withCtu (withPower calm p) fun c =>
      { c with issued := some 806496, pending := .scheduled sampleTariff g }
    (∀ g ∈ [Target.quarter 806496, .quarter 806497, .nextTick], (s .run g).comm = some testComm ∧
      storeAtRest (s .run g) = true ∧ (s .run g).ctu.issued = some 806496 ∧ (s .run g).ace.lastQ < 806496 ∧
      (s .run g).ctu.pending = .scheduled sampleTariff g ∧ (s .run g).ssc.friendly = (s .run g).ctu.friendly) ∧
    (s (.startup 3 .warm) .nextTick).psv.power = .startup 3 .warm := by decide

/-! The store. -/

/-- A waiting ROUTINE request behind a write; a checkpoint write with and without a JOURNAL behind it. -/
theorem test_witness_CheckpointRequestsAgeAndFold :
    let w := writing calm 2 false (.checkpoint testContent)
    let r := withStc w fun x => { x with checkpointWaiting := some { urgent := false, placed := 0 } }
    let j := withStc w fun x => { x with journalWaiting := some { entry := testEntry 0 1 1#32, placed := 0 } }
    (storeAtRest r = true ∧ r.stc.checkpointWaiting = some { urgent := false, placed := 0 }) ∧
    (w.psv.power.running = true ∧ w.stc.write = some { slot := 2, second := false, job := .checkpoint testContent } ∧
      w.stc.saveWaiting = none ∧ w.stc.checkpointWaiting = none ∧ w.stc.journalWaiting = none) ∧
    (j.stc.journalWaiting.isSome = true ∧ j.stc.journalSlot = some 0) := by decide

theorem test_witness_BadWritesMarkTheirSlot :
    let s := fun (b : Bool) (job : WriteJob) => writing calm 7 b job
    let j := WriteJob.journal (testEntry 0 1 1#32)
    (∀ b ∈ [true, false], ∀ job ∈ [j, .checkpoint testContent], (s b job).psv.power = .run ∧
      (s b job).comm = some testComm ∧ (s b job).stc.saveWaiting = none ∧ (s b job).stc.journalWaiting = none ∧
      (s b job).stc.checkpointWaiting = none ∧ (s b job).lkp.outbox.length < 4 ∧
      (s b job).stc.write = some { slot := 7, second := b, job := job }) ∧
    (({ calm.stc with journal := calm.stc.journal.setIfInBounds 7 .bad } : Stc).judged).journalSlot = some 0 ∧
    (({ calm.stc with checkpoints := calm.stc.checkpoints.setIfInBounds 7 .bad } : Stc).judged).checkpointSlot = some 0 := by
  decide

/-! Codes committed. -/

/-- The journal write of an entry in flight in slot 0, with a half staged and a tariff pending. -/
def committing (e : JournalEntry) : State :=
  let s := writing calm 0 false (.journal e)
  let s1 := s.setCru { s.cru with staged := some 7#32, inFlight := some e }
  withCtu s1 fun c => { c with pending := .editing sampleTariff }

/-- Every class's write in flight, at the last payload of its range; one with three entries unfolded; and one in HOLDUP with the SAVE behind it. -/
theorem test_witness_CommitRecordsTheCode :
    [(0, 4294967295#32), (1, 0x0398967F#32), (2, 0x01055F03#32), (3, 0x0B00FFFF#32), (4, 0x01015F5F#32), (5, 65535#32),
     (6, 9999999#32), (7, 0x0300FDE8#32), (8, 0x320F423F#32), (9, 255#32), (10, 0x702#32), (11, 4294967295#32),
     (12, 1#32), (13, 1#32), (14, 1#32)].all (fun p =>
      let e := testEntry p.1 65535 p.2
      commitTaken (committing e) 0 e && (classCommand e.cls).isSome && (parseAction e.cls e.payload).isSome &&
        (committing e).cru.staged.isSome) = true ∧
    (let e := testEntry 0 1 1#32
     let f := withStc (committing e) fun x => { x with unfolded := [2, 3, 4] }
     let h := withStc (withPower (committing e) .holdup) fun x => { x with saveWaiting := some 0 }
     commitTaken f 0 e = true ∧ f.psv.power = .run ∧ 3 ≤ f.stc.unfolded.length ∧ f.stc.checkpointSlot = some 0 ∧
      commitTaken h 0 e = true ∧ h.psv.power = .holdup ∧ h.stc.saveWaiting.isSome = true ∧
      h.stc.checkpointSlot = some 0) := by decide

/-- A checkpoint started after the last journal number is written folds that number (R153). -/
theorem test_folds_the_last_number :
    let e := { testEntry 0 37 90000#32 with number := 4294967295 : JournalEntry }
    let t := after .credit (withStc (writing calm 0 false (.journal e)) fun x => { x with unfolded := [4294967292, 4294967293, 4294967294] })
    t.stc.newestNumber = 4294967295 ∧ (t.stc.write.bind fun w => w.job.content.map (·.folded)) = some 4294967295 := by decide

/-- The calm part, the part OPEN for want of credit, with and without the waiver, in WARNING and in DEFERRED, and an advance that the top-up leaves in use. -/
theorem test_witness_CreditCommitMovesMoney :
    let e := testEntry 0 37 90000#32
    let s := committing e
    let o := withSsc (withAce s fun a => { a with c := 0 }) fun x =>
      { x with state := .opened, causes := { x.causes with credit := true } }
    let u := withAce s fun a => { a with c := -100000, b := 5000, share := 25, e := 100000, em := .inUse 100000 }
    (commitReady s 0 e = true ∧ e.cls = 0 ∧ 0 < e.payload.toNat ∧ s.ace.share ≤ 100 ∧
      s.ace.c ≤ Config.balanceMax ∧ conductingSettled s = true) ∧
    (commitReady o 0 e = true ∧ o.ssc.state = .opened ∧ o.ssc.waiver = false ∧
      o.ssc.causes = { credit := true, tamper := false, overload := false, remote := false }) ∧
    (commitReady u 0 e = true ∧ u.ace.em = .inUse 100000 ∧ (-100000 : Int) + 90000 - 5000 < 0 ∧
      -((100000 : Nat) : Int) < (-100000 : Int) + 90000 - 5000) ∧
    (∀ st ∈ [SupplyState.warning, .deferred],
      let w := withSsc o fun x => { x with state := st }
      commitReady w 0 e = true ∧ conductingSettled w = true ∧ w.ssc.causes = o.ssc.causes ∧
        w.stc.checkpointSlot = some 0 ∧ (after .credit w).ssc.state = .closed) ∧
    (let w := withSsc o fun x => { x with waiver := true }
     commitReady w 0 e = true ∧ (after .credit w).ssc.state = .closing) := by decide

/-- A LIMIT code returns both over-limit runs to 0, one that names the W_lim in force as well (R95). -/
theorem test_limit_clears_the_runs :
    [100, 200].all (fun lim =>
      let m := (after .limit (withMiu (committing (testEntry 7 1 0x03000064#32)) fun m =>
        { m with wLim := lim, line := { m.line with overRun := 3 }, ret := { m.ret with overRun := 2 } })).miu
      m.line.overRun == 0 && m.ret.overRun == 0 && m.wLim == 100) = true := by decide

theorem test_witness_LimitAndDebtCommits :
    [(7, 0#32), (7, 0x01000001#32), (7, 0x020186A0#32), (7, 0x03000064#32), (8, 0x32000000#32)].all (fun p =>
      let e := testEntry p.1 1 p.2
      commitReady (committing e) 0 e && (parseAction e.cls e.payload).isSome) = true ∧
    (committing (testEntry 7 1 0x03000064#32)).miu.wLim ≠ 100 := by decide

theorem test_witness_EditCommitsWriteThePendingTariff :
    [(1, 0x03000000#32), (2, 0x01057F03#32), (3, 0x0B00FFFF#32), (4, 0x01015F00#32), (6, 0#32)].all (fun p =>
      let e := testEntry p.1 1 p.2
      commitReady (committing e) 0 e && (parseAction e.cls e.payload).isSome) = true := by decide

/-- A day the clock has reached, the day after it, and nothing pending. -/
theorem test_witness_ActivateCommitSchedules :
    let e := testEntry 5 1 8400#32
    let f := testEntry 5 1 8401#32
    let n := withCtu (committing e) fun c => { c with pending := .none }
    (commitReady (committing e) 0 e = true ∧ 8400 ≤ 725846310 / 86400 ∧
      (committing e).ctu.pending = .editing sampleTariff) ∧
    (commitReady (committing f) 0 f = true ∧ ¬ 8401 ≤ 725846310 / 86400) ∧
    (commitReady n 0 e = true ∧ n.ctu.pending = .none) := by decide

theorem test_witness_TamperClearAndPolicyCommits :
    [(9, 1#32), (10, 0x702#32)].all (fun p =>
      let e := testEntry p.1 1 p.2
      commitReady (committing e) 0 e && (parseAction e.cls e.payload).isSome &&
        !(committing e).ssc.loadSide && !(committing e).miu.conducting) = true := by decide

/-- A tariff in EDITING, one whose target the new clock has just reached, and one just beyond it. -/
theorem test_witness_ClockCommitSetsTheClock :
    let e := testEntry 11 1 725846400#32
    let s := fun x : Nat => withCtu (committing e) fun c => { c with pending := .scheduled sampleTariff (.quarter x) }
    (commitReady (committing e) 0 e = true ∧ e.cls = 11 ∧ (committing e).stc.checkpointSlot = some 0) ∧
    (commitReady (s 806496) 0 e = true ∧ 806496 ≤ 725846400 / 900) ∧
    (commitReady (s 806497) 0 e = true ∧ 725846400 / 900 < 806497) := by decide

theorem test_witness_KeyCommits :
    let e := testEntry 12 1 1#32
    let f := testEntry 13 1 1#32
    commitReady (committing e) 0 e = true ∧ commitReady (committing f) 0 f = true ∧
      (committing f).cru.staged = some 7#32 ∧ (committing f).stc.checkpointSlot = some 0 := by decide

/-- CLOSED without REMOTE, OPEN for REMOTE alone, and ARMED. -/
theorem test_witness_SupplyCommit :
    let e := testEntry 14 1 0#32
    let f := testEntry 14 1 1#32
    let o := withSsc (committing f) fun x => { x with state := .opened, causes := { x.causes with remote := true } }
    let a := withSsc (committing e) fun x => { x with state := .armed }
    (commitReady (committing e) 0 e = true ∧ e.payload.toNat = 0 ∧ conductingSettled (committing e) = true ∧
      (committing e).ssc.causes.remote = false ∧ (committing e).ssc.state = .closed) ∧
    (commitReady o 0 f = true ∧ f.payload.toNat = 1 ∧ conductingSettled o = true ∧ o.ssc.state = .opened ∧
      o.ssc.causes = { credit := false, tamper := false, overload := false, remote := true }) ∧
    (commitReady a 0 e = true ∧ a.ssc.state = .armed ∧ a.ssc.causes.remote = false) := by decide

/-! Codes submitted and provisioning. -/

/-- A CREDIT code up to the ceiling, with the write path free and with a write in flight. -/
theorem test_witness_SubmitAcceptsAWellMadeCode :
    let busy := writing calm 4 false (.checkpoint testContent)
    (linkReady calm = true ∧ calm.comm = some testComm ∧ calm.cru.key = some testKey ∧ calm.cru.inFlight = none ∧
      calm.cru.lockEnd = none ∧ calm.stc.health ≠ .failed ∧ sequenceCheck 65535 calm.cru = none ∧
      parseAction 0 1999750000#32 = some (.credit 1999750000) ∧
      calm.ace.c + 1999750000 - min calm.ace.b (1999750000 * calm.ace.share / 100) ≤ calm.ace.cmax ∧
      calm.stc.journalSlot = some 0 ∧ calm.stc.write = none) ∧
    (linkReady busy = true ∧ busy.stc.write.isSome = true ∧ busy.stc.journalSlot = some 0) := by decide

/-- No run; a run just 60 min old; one a tick younger at 3 and at 4; a lockout; a part without a commission, with a code in flight, and with a full journal. -/
theorem test_witness_RefusalsRunIntoLockout :
    let s := fun (n : Nat) (at_ : Int) =>
      (calm.setNow 3686400).setCru { calm.cru with run := some { count := n, start := at_ } }
    let l := calm.setCru { calm.cru with lockEnd := some 3686400 }
    (calm.comm = some testComm ∧ calm.cru.key = some testKey ∧ linkReady calm = true ∧ calm.cru.inFlight = none ∧
      calm.stc.journalFull = false ∧ calm.cru.lockEnd = none ∧ parseDigits [] = none ∧ calm.cru.run = none) ∧
    (linkReady (s 1 0) = true ∧ (0 : Int) + 3686400 ≤ ((s 1 0).now : Int)) ∧
    (linkReady (s 3 1) = true ∧ ((s 3 1).now : Int) < 1 + 3686400) ∧
    (linkReady (s 4 1) = true ∧ (s 4 1).tmn.views.codeFlood = false ∧ (s 4 1).tmn.records[7].active = false ∧
      conductingSettled (s 4 1) = true) ∧
    (linkReady l = true ∧ l.cru.lockEnd.isSome = true ∧ storeAtRest l = true) ∧
    (linkReady (calm.setComm none) = true ∧ (calm.setComm none).comm = none) ∧
    (let f := calm.setCru { calm.cru with inFlight := some (testEntry 0 1 1#32) }
     linkReady f = true ∧ f.cru.inFlight.isSome = true) ∧
    (let j := withStc calm fun x => { x with journal := Vector.replicate 8 .bad }
     linkReady j = true ∧ j.cru.inFlight = none ∧ j.stc.journalFull = true) := by decide

/-- The plain code that a submission spells, under the part's key. -/
def spelt (digits : List Byte) : Option PlainCode := (parseDigits digits).map fun v => cutPlain (unscramble testKey v)

/-- A well-made code of each refusal from the class on: CLASS, USED, STALE, VALUE, LIMIT, EMPTY, a KEY_LO with no half staged, STORE; and a code whose last digit is wrong, CHECK. -/
theorem test_witness_RefusalsOfWellMadeCodes :
    let reads := fun (cls seq : Nat) (p : BitVec 32) =>
      (spelt (issuedCode testKey cls seq p)).map (fun x => (x.cls, x.seq, x.payload, x.check == checkOf cls seq p)) ==
        some (cls, seq, p, true)
    let h := { calm.cru with h := some 40, redeemed := [rec 9, rec 40] }
    let f := withStc calm fun x => { x with health := .failed }
    (reads 15 7 1#32 && reads 0 9 1#32 && reads 0 8 1#32 && reads 0 41 0#32 && reads 0 41 1999750001#32 &&
        reads 5 41 0#32 && reads 13 41 1#32) = true ∧ sequenceCheck 9 h = some .used ∧ sequenceCheck 8 h = some .stale ∧ sequenceCheck 41 h = none ∧
      parseAction 0 0#32 = none ∧ (parseAction 0 1999750001#32).isSome = true ∧
      (calm.ace.cmax : Int) < calm.ace.c + 1999750001 - min calm.ace.b (1999750001 * calm.ace.share / 100) ∧
      (parseAction 5 0#32).isSome = true ∧ calm.ctu.pending = .none ∧ (parseAction 13 1#32).isSome = true ∧
      calm.cru.staged = none ∧ linkReady f = true ∧ f.stc.health = .failed ∧ f.stc.journalFull = false ∧
      (let code := (issuedCode testKey 0 37 500000#32).set 21 0x31#8
       (spelt code).map (fun x => x.check == checkOf x.cls x.seq x.payload) = some false) := by decide

/-- An UNCOMMISSIONED part in RUN, and a commissioned one; P at its two bounds and just past each, and a byte just past the digits. -/
theorem test_witness_ProvisionCommissionsThePart :
    let u := withSsc (calm.setComm none) fun _ => Ssc.factory
    linkReady u = true ∧ (List.replicate 12 0x39#8).length = 12 ∧
      (∀ b ∈ List.replicate 12 0x39#8, 48 ≤ b.toNat ∧ b.toNat ≤ 57) ∧ 2 ^ 64 - 1 < 2 ^ 64 ∧ 100 ≤ 20000 ∧
      2 ^ 32 - 1 < 2 ^ 32 ∧ u.comm = none ∧ u.ssc.state = .opened ∧
      u.ssc.causes = { credit := true, tamper := false, overload := false, remote := true } ∧
      u.stc.write = none ∧ u.stc.checkpointSlot = some 0 ∧ linkReady calm = true ∧ calm.comm.isSome = true ∧
      u.stc.nextJournal = u.stc.newestNumber + 1 ∧ 20000 < 2 ^ 16 ∧ ¬ (100 ≤ 99) ∧ ¬ (20001 ≤ 20000) ∧
      ¬ (∀ b ∈ List.replicate 11 0x39#8 ++ [0x3A#8], 48 ≤ b.toNat ∧ b.toNat ≤ 57) := by decide

/-! The link. -/

/-- Both commissioning states, each pending state, an event and a record to read, and indexes just past them. -/
theorem test_witness_ReadsReplyAndChangeNothing :
    let s := (calm.setTmn { calm.tmn with history := [{ time := .clockInvalid, kind := .powerDown }] }).setCru
      { calm.cru with h := some 5, redeemed := [rec 5] }
    linkReady s = true ∧ s.comm = some testComm ∧ linkReady (s.setComm none) = true ∧ s.ctu.pending = .none ∧
      s.tmn.history[(0#8).toNat]? = some { time := .clockInvalid, kind := .powerDown } ∧
      s.tmn.history.length ≤ (1#8).toNat ∧ s.cru.redeemed.reverse[(0#8).toNat]? = some (rec 5) ∧
      s.cru.redeemed.length ≤ (1#8).toNat ∧ 1 < (2#8).toNat ∧ 2 < (3#8).toNat ∧ 7 < (8#8).toNat ∧
      (∀ p ∈ [PendingTariff.editing sampleTariff, .scheduled sampleTariff .nextTick,
        .scheduled sampleTariff (.quarter 806808)],
        linkReady (withCtu calm fun c => { c with pending := p }) = true) := by decide

/-- A period on both channels and on the line channel alone, with a window and without, and an UNCOMMISSIONED part. -/
theorem test_witness_SnapshotLayout :
    let s := withAce (withMiu calm fun m => { m with line := { m.line with lastAt := some 0, period := some 709 } })
      fun a => { a with em := .inUse 655350000 }
    let b := withMiu s fun m => { m with ret := { m.ret with lastAt := some 0, period := some 500 }, window := none }
    (∀ x ∈ [s, b, s.setComm none], linkReady x = true ∧ x.ctu.clock.count < 2 ^ 32 ∧ x.ace.b < 2 ^ 40 ∧
      x.ace.d < 65536 ∧ x.ace.q < 256 ∧ x.ace.em = .inUse 655350000) ∧
    655350000 / 10000 < 65536 ∧ calm.ace.em = .unavailable ∧ s.comm = some testComm ∧ s.miu.ret.period = none ∧
    b.miu.ret.lastAt = some 0 ∧ b.miu.ret.period = some 500 ∧ b.miu.window = none ∧ s.miu.window.isSome = true ∧
    (s.setComm none).comm = none := by decide

theorem test_witness_AlertRequestsMarkAndClear :
    linkReady calm = true ∧ (1#8).toNat ≤ 1 ∧ 1 < (2#8).toNat := by decide

/-- A record of today, one of an earlier day, an advance of 90 s into a new quarter, and an INVALID clock. -/
theorem test_witness_TrimClockAppliesTheAllowance :
    let s := fun d : Nat => withCtu calm fun c => { c with trim := some { day := d, advance := 120, retard := 120 } }
    let i := withCtu calm fun c => { c with clock := .invalid }
    linkReady (s 8400) = true ∧ linkReady (s 8399) = true ∧ (s 8400).ctu.clock.count / 86400 = 8400 ∧
      (s 8400).ctu.clock.valid = true ∧ calm.ctu.clock.count ≤ 4294967295 ∧ 0 < 100 ∧ 2 ^ 31 - 1 < 2 ^ 31 ∧
      linkReady i = true ∧ i.ctu.clock.valid = false ∧ i.ctu.clock.count ≤ 4294967295 ∧ 2 ^ 31 ≤ 2 ^ 31 ∧
      (s 8399).ctu.issued = none ∧ (s 8399).ace.lastQ < ((s 8399).ctu.clock.count + 90) / 900 ∧
      (s 8399).ctu.clock.count / 900 ≤ (s 8399).ace.lastQ := by decide

/-- Each of the five answers in its turn. -/
theorem test_witness_RequestsAreJudgedInOrder :
    let b := calm.setLkp { calm.lkp with inService := some 3 }
    requestOf (.submit []) = some (3#8, []) ∧ requestOf (.ident [1#8]) = some (1#8, [1#8]) ∧
      requestOf (.unknownRequest 12#8 []) = some (12#8, []) ∧
      (∀ p ∈ [Power.startup 1 .cold, .holdup, .run], (withPower calm p).lkp.rx.state = .hunt ∧
        (withPower calm p).lkp.outbox.length < 4 ∧ storeAtRest (withPower calm p) = true) ∧
      b.psv.power = .run ∧ b.lkp.inService.isSome = true ∧ storeAtRest b = true ∧ calm.lkp.inService = none ∧
      ¬ (1 ≤ (12#8).toNat ∧ (12#8).toNat ≤ 11) ∧ ((1#8).toNat, 0) ∈ [(1, 0), (2, 26)] ∧ [1#8].length ≠ 0 := by decide

/-- A length byte of 61, a frame cut short after its sync byte, an assembler inside a frame, and a reply to send. -/
theorem test_witness_DiscardsLeaveNoTrace :
    let l := calm.setLkp { calm.lkp with rx := { state := .length, lastByte := 0 } }
    let r := calm.setLkp { calm.lkp with outbox := [{ status := .ok, type := 1, payload := [] }] }
    calm.psv.power.mainPowered = true ∧ storeAtRest calm = true ∧ calm.lkp.rx.state = .hunt ∧
      (Instr.frameDiscard [{ value := 0xA5#8, stopOk := true }, { value := 61#8, stopOk := true }]).wf = true ∧
      (Instr.frameGapTimeout [{ value := 0xA5#8, stopOk := true }]).wf = true ∧ l.lkp.rx.state ≠ .hunt ∧
      r.lkp.outbox = { status := .ok, type := 1, payload := [] } :: [] := by decide

/-! The supply and the inputs. -/

/-- A drive run at an attempt and step, in the state of its direction. -/
def driving (dir : Direction) (attempt : Nat) (st : DriveStep) : State :=
  withSsc calm fun x => { x with
    state := if dir = .toOpen then .opening else .closing
    run := some { dir := dir, attempt := attempt, step := st, ticks := 0, lastFail := none, abandoned := false } }

/-- Each step; a settle that verifies and one that fails, in both directions; the third attempt. -/
theorem test_witness_DriveRunTakesItsSteps :
    (∀ d ∈ [Direction.toOpen, .toClose], ∀ n ∈ [2, 3], ∀ st ∈ [DriveStep.reservoir, .pulse, .settle],
      let s := driving d n st
      s.psv.power = .run ∧ s.comm = some testComm ∧ storeAtRest s = true ∧
        s.ssc.run = some { dir := d, attempt := n, step := st, ticks := 0, lastFail := none, abandoned := false } ∧
        s.ssc.state = (if d = .toOpen then .opening else .closing)) ∧
    (driving .toOpen 3 .settle).pins.loadSense = decide (Direction.toOpen = .toOpen) ∧
    (let s := withSsc ((driving .toOpen 1 .settle).setPins { calm.pins with loadSense := false }) fun x =>
       { x with causes := { x.causes with credit := true } }
     s.pins.loadSense = false ∧ s.ssc.causes.isEmpty = false) ∧
    (let s := driving .toClose 1 .settle
     s.pins.loadSense = true ∧ s.ssc.causes.isEmpty = true ∧ conductingSettled s = true ∧ s.miu.conducting = false ∧
      s.ssc.loadSide = false) := by decide

/-- A run with its attempt and step, made from the STUCK state of its direction, with a set and LOAD_SENSE as given. -/
def retrying (dir : Direction) (attempt : Nat) (st : DriveStep) (k : Causes) (present : Bool) : State :=
  let s := (driving dir attempt st).setPins { calm.pins with loadSense := present }
  let v := s.setTmn { s.tmn with
    views := { s.tmn.views with switchFault := true }
    records := s.tmn.records.set 6 { s.tmn.records[6] with active := true } }
  withSsc v fun x => { x with state := if dir = .toOpen then .stuckClosed else .stuckOpen, causes := k }

/-- A retry run from each STUCK state that verifies with each kind of set, and one that fails its third attempt. -/
theorem test_witness_DriveRunTakesItsSteps_retry :
    (∀ d ∈ [Direction.toOpen, .toClose], ∀ k ∈ [noCause, { noCause with credit := true }, { noCause with remote := true }],
      ∀ l ∈ [false, true], let s := retrying d 3 .settle k l
      s.psv.power = .run ∧ s.comm = some testComm ∧ storeAtRest s = true ∧ conductingSettled s = true ∧
        s.ssc.state = (if d = .toOpen then .stuckClosed else .stuckOpen) ∧ s.pins.loadSense = l ∧
        s.tmn.views.switchFault = true ∧ s.tmn.records[6].active = true) ∧
    (let t := after .settleEnd (retrying .toOpen 3 .settle noCause false)
     t.ssc.state = .armed ∧ t.tmn.records[6].active = false) ∧
    (let t := after .settleEnd (retrying .toClose 3 .settle { noCause with credit := true } true)
     t.ssc.state = .warning ∧ t.ssc.warn = some 0) ∧
    (let t := after .settleEnd (retrying .toOpen 3 .settle { noCause with remote := true } true)
     t.ssc.state = .stuckClosed ∧ t.ssc.stuckRetry = some 0 ∧ t.ssc.run = none ∧ t.tmn.history = calm.tmn.history) := by
  decide

/-- A fall of RESERVOIR_READY told in the settle step is what the next attempt finds: it waits for the reservoir (R115). -/
theorem test_reservoir_fall :
    let s := (driving .toOpen 1 .settle).setPins { calm.pins with reservoirReady := true }
    (after .settleEnd s).ssc.run.map (fun r => (r.attempt, r.step)) = some (2, .pulse) ∧
      (after .settleEnd (after (.reservoirReadyRise false) s)).ssc.run.map (fun r => (r.attempt, r.step)) =
        some (2, .reservoir) := by decide

/-- Each timer running, with a cause and without, at two trips and at three, with the clock VALID and INVALID. -/
theorem test_witness_SupplyTimersExpire :
    let s := fun (st : SupplyState) (n : Nat) (c : Causes) => withSsc calm fun x =>
      { x with state := st, warn := some 614400, stuckRetry := some 921600, restore := some 61440, trips := n
               tripDay := some 88473600, causes := c, waiver := false }
    let none_ : Causes := { credit := false, tamper := false, overload := false, remote := false }
    let ovl : Causes := { none_ with overload := true }
    (∀ c ∈ [none_, ovl, { none_ with remote := true }], ∀ n ∈ [2, 3], ∀ st ∈ [SupplyState.warning, .opened, .stuckClosed],
      (s st n c).psv.power = .run ∧ storeAtRest (s st n c) = true ∧ conductingSettled (s st n c) = true ∧
      (s st n c).ssc.warn = some 614400 ∧ (s st n c).ssc.stuckRetry = some 921600 ∧
      (s st n c).ssc.restore = some 61440 ∧ (s st n c).ssc.tripDay = some 88473600 ∧
      (s st n c).comm.isSome = true ∧ (s st n c).ctu.clock.valid = true ∧
      (s st n c).pins.loadSense = !(s st n c).ssc.loadSide) ∧
    heldOpen (s .opened 2 { none_ with remote := true }) = true ∧
    (let c := withAce (s .opened 2 { none_ with credit := true }) fun a => { a with c := 0 }
     heldOpen c = true ∧ (after .loadSideChange c).tmn.records[5].active = true) ∧
    (withCtu (s .opened 3 ovl) fun c => { c with clock := .invalid }).ctu.clock.valid = false := by decide

/-- A press while a run goes on, in ARMED, in STUCK_OPEN, and on an offer in OPEN, WARNING, DEFERRED, CLOSED and ARMED, with each set of causes. -/
theorem test_witness_AcceptPressActs :
    let s := fun st : SupplyState => withSsc calm fun x => { x with state := st }
    let o := withAce (withSsc (s .opened) fun x => { x with causes := { x.causes with credit := true } }) fun a =>
      { a with c := 0, e := 100000, em := .offered }
    (∀ st ∈ [SupplyState.opening, .armed, .stuckOpen], (s st).psv.power = .run ∧ (s st).ssc.accept.armed = true ∧
      storeAtRest (s st) = true ∧ (s st).ssc.run = none ∧ (s st).ace.em ≠ .offered ∧
      conductingSettled (s st) = true ∧ (s st).ssc.causes.isEmpty = true) ∧
    (o.psv.power = .run ∧ o.ssc.accept.armed = true ∧ storeAtRest o = true ∧ o.ace.em = .offered ∧
      o.ssc.run = none ∧ o.ssc.state = .opened ∧ o.ssc.waiver = false ∧
      o.ssc.causes = { credit := true, tamper := false, overload := false, remote := false } ∧
      -(o.ace.e : Int) < o.ace.c) ∧
    (let w := fun (st : SupplyState) (c : Causes) => withAce (withSsc calm fun x => { x with state := st, causes := c })
       fun a => { a with c := 0, e := 100000, em := .offered }
     let none_ : Causes := { credit := false, tamper := false, overload := false, remote := false }
     (∀ st ∈ [SupplyState.warning, .deferred, .closed, .armed, .opened],
       ∀ c ∈ [none_, { none_ with credit := true }, { none_ with credit := true, remote := true }],
        (w st c).ace.em = .offered ∧ (w st c).ssc.run = none ∧ -((w st c).ace.e : Int) < (w st c).ace.c ∧
        (w st c).ssc.state = st ∧ (w st c).ssc.causes = c ∧ (w st c).ssc.accept.armed = true ∧
        storeAtRest (w st c) = true ∧ conductingSettled (w st c) = true) ∧
      none_.isEmpty = true ∧ ({ none_ with credit := true, remote := true } : Causes).beyondCredit = true) := by decide

/-- Changed inputs, a one-shot that ends high, low and unchanged, a LOAD_SENSE sample in OPEN and in CLOSED, and MAINS_OK in BATTERY. -/
theorem test_witness_InputsAreSampled :
    let s := fun (pin level : Bool) => (calm.setTmn { calm.tmn with
      cover := { last := pin, shot := some 512, level := level } }).setPins { calm.pins with cover := pin }
    (∀ p ∈ [true, false], ∀ l ∈ [true, false], storeAtRest (s p l) = true ∧ (s p l).psv.power = .run ∧
      (s p l).psv.bramValid = true ∧ (s p l).tmn.cover.shot = some 512 ∧ (s p l).pins.cover = p ∧
      (s p l).tmn.cover.level = l ∧ (s p l).comm.isSome = true ∧ conductingSettled (s p l) = true ∧
      (s p l).tmn.cover.last ≠ !p) ∧
    calm.tmn.terminal.last ≠ true ∧ calm.tmn.magnet.last ≠ true ∧ false ≠ calm.pins.loadSense ∧
    (withSsc calm fun x => { x with state := .opened }).ssc.state = .opened ∧ calm.ssc.state ≠ .opened ∧
    (withPower calm .battery).psv.power = .battery ∧ storeAtRest (withPower calm .battery) = true := by decide

/-! ### Witnesses of the statements about every step -/

/-- An empty queue with nothing due, and with a flash slot at its end. -/
theorem test_witness_IdleStepTakesDueEventOrTick :
    let quiet := State.reset
    let due := withMiu (calm.setPending []) fun m => { m with flashSlot := some 103 }
    (quiet.pending = [] ∧ dueEvents quiet = []) ∧ (due.pending = [] ∧ Instr.flashSlotEnd ∈ dueEvents due) := by decide

/-- A running part with a command waiting, and the part at reset that powers up. -/
def stepping : List State := [calm.setPending [.flashSlotEnd], State.reset.setPending [.powerOn pinsAtReset]]

theorem test_witness_StepKeepsStoreTidy : ∀ s ∈ stepping, storeTidy s = true ∧ goesOn (step s) = true := by decide

theorem test_witness_StepKeepsAccountsLawful : ∀ s ∈ stepping, accountsLawful s = true ∧ goesOn (step s) = true := by decide

theorem test_witness_StepKeepsCreditTrue : ∀ s ∈ stepping, creditTrue s = true ∧ goesOn (step s) = true := by decide

theorem test_witness_StepKeepsListsBounded : ∀ s ∈ stepping, listsBounded s = true ∧ goesOn (step s) = true := by decide

theorem test_witness_StepKeepsDrivesSound : ∀ s ∈ stepping, drivesSound s = true ∧ goesOn (step s) = true := by decide

end Sys2Proof.Tests
end

/-! ### Charges taken together: two charges in a row are one charge of their sum (R34) -/

namespace Sys2Proof.Machine

theorem satAdd_zero {cap a : Nat} (h : a ≤ cap) : satAdd cap a 0 = a := Nat.min_eq_right h

theorem satAdd_le (cap a b : Nat) : satAdd cap a b ≤ cap := Nat.min_le_left ..

/-- What saturation loses in the first sum stays lost in the second. -/
theorem satAdd_satAdd (cap a x y : Nat) : satAdd cap (satAdd cap a x) y = satAdd cap a (x + y) := by
  unfold satAdd; omega

/-- The part of C above the floor, which a charge takes first (R31). -/
def Ace.room (a : Ace) : Nat := (a.c - a.floor).toNat

/-- The account after a charge, with R31's two cases said as one formula. -/
def Ace.settled (a : Ace) (q : Nat) : Ace :=
  { a with
    c := max a.floor (a.c - q)
    balanceCharges := satAdd Config.totalMax a.balanceCharges (min q a.room)
    b := satAdd Config.debtMax a.b (q - a.room)
    debtCharges := satAdd Config.totalMax a.debtCharges (q - a.room) }

@[simp] theorem Ace.settled_floor (a : Ace) (q : Nat) : (a.settled q).floor = a.floor := rfl
@[simp] theorem Ace.settled_c (a : Ace) (q : Nat) : (a.settled q).c = max a.floor (a.c - q) := rfl

theorem Ace.settled_room (a : Ace) (q : Nat) : (a.settled q).room = a.room - q := by
  simp only [Ace.room, Ace.settled_floor, Ace.settled_c]
  omega

/-- A charge that fits above the floor has no rest, and one that does not takes the whole room. -/
theorem Ace.charged_eq_settled {a : Ace} (q : Nat) (hc : a.floor ≤ a.c) (hb : a.b ≤ Config.debtMax)
    (hd : a.debtCharges ≤ Config.totalMax) : a.charged q = a.settled q := by
  unfold Ace.charged Ace.settled
  split
  next fits =>
    have hq : q ≤ a.room := by unfold Ace.room; omega
    simp [max_eq_right fits, Nat.min_eq_left hq, Nat.sub_eq_zero_of_le hq, satAdd_zero hb, satAdd_zero hd]
  next exceeds =>
    have hq : a.room ≤ q := by unfold Ace.room; omega
    have hfloor : a.c - (a.room : Int) = max a.floor (a.c - q) := by unfold Ace.room; omega
    rw [← hfloor, Nat.min_eq_right hq]
    rfl

theorem Ace.settled_settled (a : Ace) (q1 q2 : Nat) : (a.settled q1).settled q2 = a.settled (q1 + q2) := by
  have hc : max a.floor (max a.floor (a.c - q1) - q2) = max a.floor (a.c - (q1 + q2 : Nat)) := by omega
  have balancePart : min q1 a.room + min q2 (a.room - q1) = min (q1 + q2) a.room := by omega
  have debtPart : (q1 - a.room) + (q2 - (a.room - q1)) = q1 + q2 - a.room := by omega
  rw [Ace.settled, Ace.settled_room, Ace.settled_floor, Ace.settled_c]
  simp only [Ace.settled, satAdd_satAdd, hc, balancePart, debtPart]

theorem Ace.charged_charged {a : Ace} (q1 q2 : Nat) (hc : a.floor ≤ a.c) (hb : a.b ≤ Config.debtMax)
    (hd : a.debtCharges ≤ Config.totalMax) : (a.charged q1).charged q2 = a.settled (q1 + q2) := by
  rw [Ace.charged_eq_settled q1 hc hb hd,
    Ace.charged_eq_settled q2 (le_max_left ..) (satAdd_le ..) (satAdd_le ..), Ace.settled_settled]

/-- Settles O17: in either order the two charges are one charge of q1 + q2. -/
theorem twoChargesCommute : Obligations.TwoChargesCommute := by
  intro a q1 q2 _ _ hc hb _ hd t room
  have ht : t = a.settled (q1 + q2) := Ace.charged_charged q1 q2 hc hb hd
  have hswap : (a.charged q2).charged q1 = t := by
    rw [ht, Ace.charged_charged q2 q1 hc hb hd, Nat.add_comm]
  have hsum : a.c - q1 - q2 = a.c - ((q1 + q2 : Nat) : Int) := by omega
  rw [hsum]
  refine ⟨hswap, ?_⟩
  rw [ht]
  exact ⟨rfl, rfl, rfl, rfl, rfl, rfl, rfl, rfl, rfl⟩

end Sys2Proof.Machine

/-! ### The band of a quarter: the fold over a profile's switch points finds the latest one (R57) -/

namespace Sys2Proof.Machine

/-- Slot `i` holds a point with quarter `q` and band `b` at or before `x`, and no other such point is later or, with the same quarter, in a higher slot (R57). -/
structure IsLatest (x : Nat) (l : List SwitchPoint) (i q : Nat) (b : Fin 4) : Prop where
  held : l[i]? = some { quarter := some q, band := b }
  reached : q ≤ x
  greatest : ∀ (j r : Nat) (c : Fin 4), l[j]? = some { quarter := some r, band := c } → r ≤ x →
    r < q ∨ (r = q ∧ j ≤ i)

/-- No point of the list has a quarter at or before `x`. -/
def NoneReached (x : Nat) (l : List SwitchPoint) : Prop :=
  ∀ (j r : Nat) (c : Fin 4), l[j]? = some { quarter := some r, band := c } → x < r

theorem IsLatest.unique {x i j q r : Nat} {l : List SwitchPoint} {b c : Fin 4} (hi : IsLatest x l i q b)
    (hj : IsLatest x l j r c) : q = r ∧ b = c := by
  have hr := hi.greatest j r c hj.held hj.reached
  have hq := hj.greatest i q b hi.held hi.reached
  obtain rfl : i = j := by omega
  simpa [hi.held] using hj.held

theorem IsLatest.not_noneReached {x i q : Nat} {l : List SwitchPoint} {b : Fin 4} (h : IsLatest x l i q b) :
    ¬ NoneReached x l := fun unreached => (unreached i q b h.held).not_ge h.reached

theorem getElem?_concat_eq_some {α : Type} {l : List α} {p v : α} {j : Nat} (h : (l ++ [p])[j]? = some v) :
    l[j]? = some v ∨ (j = l.length ∧ p = v) := by
  rw [List.getElem?_append] at h
  split at h
  · exact .inl h
  · rw [List.getElem?_singleton, Option.ite_none_right_eq_some, Option.some.injEq] at h
    obtain ⟨hj, hv⟩ := h
    exact .inr ⟨by omega, hv⟩

/-! What a further slot does to the latest point: it is passed over, or it becomes the latest. -/

theorem NoneReached.concat {x : Nat} {l : List SwitchPoint} {p : SwitchPoint} (h : NoneReached x l)
    (hp : ∀ r, p.quarter = some r → x < r) : NoneReached x (l ++ [p]) := by
  intro j r c hj
  obtain hj | ⟨-, rfl⟩ := getElem?_concat_eq_some hj
  · exact h j r c hj
  · exact hp r rfl

theorem IsLatest.concat_passed {x i q : Nat} {l : List SwitchPoint} {b : Fin 4} {p : SwitchPoint}
    (h : IsLatest x l i q b) (hp : ∀ r, p.quarter = some r → r ≤ x → r < q) : IsLatest x (l ++ [p]) i q b where
  held := by
    have hi : i < l.length := (List.getElem?_eq_some_iff.mp h.held).1
    rw [List.getElem?_append_left hi, h.held]
  reached := h.reached
  greatest j r c hj hr := by
    obtain hj | ⟨-, rfl⟩ := getElem?_concat_eq_some hj
    · exact h.greatest j r c hj hr
    · exact .inl (hp r rfl hr)

theorem isLatest_concat_taken {x q : Nat} {l : List SwitchPoint} {b : Fin 4} (hq : q ≤ x)
    (hl : ∀ (j r : Nat) (c : Fin 4), l[j]? = some { quarter := some r, band := c } → r ≤ x → r ≤ q) :
    IsLatest x (l ++ [{ quarter := some q, band := b }]) l.length q b where
  held := by simp
  reached := hq
  greatest j r c hj hr := by
    obtain hj | ⟨rfl, hp⟩ := getElem?_concat_eq_some hj
    · have hlt : j < l.length := (List.getElem?_eq_some_iff.mp hj).1
      have := hl j r c hj hr
      omega
    · cases hp
      exact .inr ⟨rfl, le_rfl⟩

/-! `latestPoint`, slot by slot from the end of the list. -/

theorem latestPoint_concat_unreached {x : Nat} {l : List SwitchPoint} {p : SwitchPoint}
    (hp : ∀ r, p.quarter = some r → x < r) : latestPoint x (l ++ [p]) = latestPoint x l := by
  obtain ⟨_ | q, b⟩ := p
  · simp [latestPoint]
  · simp [latestPoint, Nat.not_le.mpr (hp q rfl)]

theorem latestPoint_concat_first {x q : Nat} {l : List SwitchPoint} {b : Fin 4} (hq : q ≤ x)
    (hl : latestPoint x l = none) : latestPoint x (l ++ [{ quarter := some q, band := b }]) = some (q, b) := by
  unfold latestPoint at hl ⊢
  simp [hl, hq]

theorem latestPoint_concat_compared {x q r : Nat} {l : List SwitchPoint} {b c : Fin 4} (hq : q ≤ x)
    (hl : latestPoint x l = some (r, c)) :
    latestPoint x (l ++ [{ quarter := some q, band := b }]) = some (if r ≤ q then (q, b) else (r, c)) := by
  unfold latestPoint at hl ⊢
  simp only [List.foldl_append, hl, List.foldl_cons, List.foldl_nil, hq, if_true]
  split <;> rfl

/-- The fold finds the latest point, and answers nothing only where no point is reached. -/
theorem latestPoint_cases (x : Nat) (l : List SwitchPoint) :
    (latestPoint x l = none ∧ NoneReached x l) ∨
      ∃ i q b, latestPoint x l = some (q, b) ∧ IsLatest x l i q b := by
  induction l using List.reverseRecOn with
  | nil => exact .inl ⟨rfl, fun j r c h => by simp at h⟩
  | append_singleton l p ih =>
    by_cases hp : ∀ r, p.quarter = some r → x < r
    · rw [latestPoint_concat_unreached hp]
      obtain ⟨hnone, hl⟩ | ⟨i, q, b, hsome, hl⟩ := ih
      · exact .inl ⟨hnone, hl.concat hp⟩
      · exact .inr ⟨i, q, b, hsome, hl.concat_passed fun r hr hx => absurd (hp r hr) (by omega)⟩
    · obtain ⟨_ | q, b⟩ := p
      · simp at hp
      have hq : q ≤ x := by simpa using hp
      obtain ⟨hnone, hl⟩ | ⟨i, r, c, hsome, hl⟩ := ih
      · exact .inr ⟨_, q, b, latestPoint_concat_first hq hnone,
          isLatest_concat_taken hq fun j r c hj hr => absurd (hl j r c hj) (by omega)⟩
      rw [latestPoint_concat_compared hq hsome]
      by_cases hrq : r ≤ q
      · refine .inr ⟨_, q, b, by rw [if_pos hrq], isLatest_concat_taken hq fun j r' c' hj hr' => ?_⟩
        have := hl.greatest j r' c' hj hr'
        omega
      · exact .inr ⟨i, r, c, by rw [if_neg hrq], hl.concat_passed fun r' hr' _ => by cases hr'; omega⟩

theorem IsLatest.latestPoint_eq {x i q : Nat} {l : List SwitchPoint} {b : Fin 4} (h : IsLatest x l i q b) :
    latestPoint x l = some (q, b) := by
  obtain ⟨-, hl⟩ | ⟨j, r, c, hsome, hl⟩ := latestPoint_cases x l
  · exact absurd hl h.not_noneReached
  · obtain ⟨rfl, rfl⟩ := h.unique hl
    exact hsome

theorem NoneReached.latestPoint_eq {x : Nat} {l : List SwitchPoint} (h : NoneReached x l) :
    latestPoint x l = none := by
  obtain ⟨hnone, -⟩ | ⟨_, _, _, -, hl⟩ := latestPoint_cases x l
  · exact hnone
  · exact absurd h hl.not_noneReached

/-! The three sources of a day's band (R57). -/

/-- The switch points of the profile of the day. -/
def Tariff.dayPoints (t : Tariff) (day : Nat) : List SwitchPoint := t.points (t.profileOf day)

theorem Tariff.dayPoints_eq (t : Tariff) (day : Nat) : t.dayPoints day =
    (t.switches.toList.drop
      (if weekdayOf day = 5 ∨ weekdayOf day = 6 ∨ some day ∈ t.specials.toList then 6 else 0)).take 6 := by
  have special : t.isSpecial day = true ↔ some day ∈ t.specials.toList := List.contains_iff_mem
  simp only [Tariff.dayPoints, Tariff.points, Tariff.profileOf, special, ite_mul, Nat.one_mul, Nat.zero_mul]

theorem Tariff.mem_switches_of_mem_dayPoints {t : Tariff} {day : Nat} {p : SwitchPoint}
    (h : p ∈ t.dayPoints day) : p ∈ t.switches.toList := List.mem_of_mem_drop (List.mem_of_mem_take h)

theorem Tariff.bandAt_of_latest {t : Tariff} {day x i q : Nat} {b : Fin 4}
    (h : IsLatest x (t.dayPoints day) i q b) : t.bandAt day x = b := by
  have hx : latestPoint x (t.points (t.profileOf day)) = some (q, b) := h.latestPoint_eq
  simp only [Tariff.bandAt, hx]

theorem Tariff.bandAt_of_carried {t : Tariff} {day x i q : Nat} {b : Fin 4}
    (hx : NoneReached x (t.dayPoints day)) (h : IsLatest 95 (t.dayPoints day) i q b) : t.bandAt day x = b := by
  have hnow : latestPoint x (t.points (t.profileOf day)) = none := hx.latestPoint_eq
  have hlast : latestPoint 95 (t.points (t.profileOf day)) = some (q, b) := h.latestPoint_eq
  simp only [Tariff.bandAt, hnow, hlast]

theorem Tariff.bandAt_of_unset {t : Tariff} {day x : Nat}
    (hx : NoneReached x (t.dayPoints day)) (h : NoneReached 95 (t.dayPoints day)) : t.bandAt day x = 0 := by
  have hnow : latestPoint x (t.points (t.profileOf day)) = none := hx.latestPoint_eq
  have hlast : latestPoint 95 (t.points (t.profileOf day)) = none := h.latestPoint_eq
  simp only [Tariff.bandAt, hnow, hlast]

/-- Settles O12: the band is that of the latest point reached, else of the latest of the profile, else 0. -/
theorem bandFollowsTheSwitchPoints : Obligations.BandFollowsTheSwitchPoints := by
  intro t day x inRange
  rw [← Tariff.dayPoints_eq]
  intro l
  refine ⟨fun i q b held reached greatest => Tariff.bandAt_of_latest ⟨held, reached, greatest⟩,
    fun unreached => ⟨fun i q b held greatest => ?carried, fun unset => ?unset⟩⟩
  case carried =>
    have hq : q ≤ 95 :=
      inRange _ (Tariff.mem_switches_of_mem_dayPoints (List.mem_of_getElem? held)) q rfl
    exact Tariff.bandAt_of_carried unreached ⟨held, hq, fun j r c hj _ => greatest j r c hj⟩
  case unset =>
    exact Tariff.bandAt_of_unset unreached fun j r c hj => by cases unset _ (List.mem_of_getElem? hj)

end Sys2Proof.Machine

/-! ### The sequence check: one equation per row of its table (R82) -/

namespace Sys2Proof.Machine

theorem sequenceCheck_of_noTop {seq : Nat} {c : Cru} (hc : c.h = none) : sequenceCheck seq c = none := by
  simp only [sequenceCheck, hc]

theorem sequenceCheck_of_aboveTop {seq h : Nat} {c : Cru} (hc : c.h = some h) (above : h < seq) :
    sequenceCheck seq c = none := by
  simp only [sequenceCheck, hc, if_pos above]

theorem sequenceCheck_of_belowWindow {seq h : Nat} {c : Cru} (hc : c.h = some h) (below : seq + 31 < h) :
    sequenceCheck seq c = some .stale := by
  have notAbove : ¬ h < seq := by omega
  simp only [sequenceCheck, hc, if_neg notAbove, if_pos below]

/-- From H − 31 to H the redeemed list alone decides. -/
theorem sequenceCheck_inWindow {seq h : Nat} {c : Cru} (hc : c.h = some h) (top : seq ≤ h)
    (bottom : h ≤ seq + 31) :
    sequenceCheck seq c = if ∃ r ∈ c.redeemed, r.seq = seq then some .used else none := by
  simp only [sequenceCheck, hc, if_neg top.not_gt, if_neg bottom.not_gt, List.any_eq_true, beq_iff_eq]

/-- Only a sequence below the window is STALE. -/
theorem sequenceCheck_eq_stale_iff {seq h : Nat} {c : Cru} (hc : c.h = some h) :
    sequenceCheck seq c = some .stale ↔ seq + 31 < h := by
  refine ⟨fun stale => ?_, sequenceCheck_of_belowWindow hc⟩
  by_contra bottom
  obtain above | top := Nat.lt_or_ge h seq
  · simp [sequenceCheck_of_aboveTop hc above] at stale
  · rw [sequenceCheck_inWindow hc top (Nat.le_of_not_lt bottom)] at stale
    split at stale <;> cases stale

/-- Settles O14: each row is its equation, and with H at 30 or less nothing lies below the window. -/
theorem sequenceWindowTable : Obligations.SequenceWindowTable := by
  intro seq c
  refine ⟨sequenceCheck_of_noTop, fun h => sequenceCheck_of_aboveTop, fun h hc top bottom free => ?free,
    fun h hc top bottom redeemed => ?redeemed, fun h => sequenceCheck_of_belowWindow,
    fun h hc low => ?low, rfl, rfl⟩
  case free =>
    have unlisted : ¬ ∃ r ∈ c.redeemed, r.seq = seq := fun ⟨r, hr, heq⟩ => free r hr heq
    rw [sequenceCheck_inWindow hc top bottom, if_neg unlisted]
  case redeemed => rw [sequenceCheck_inWindow hc top bottom, if_pos redeemed]
  case low =>
    rw [Ne, sequenceCheck_eq_stale_iff hc]
    omega

end Sys2Proof.Machine
